-- ==== Sys2Proof/Word.lean ====
section
/-! DEFINITION. The words the block's ports and registers carry (00_scope.md R5, R12), and the command triple of the
write interface (10_state.md R34). -/

namespace Sys2Proof

/-- A command word: 32 bits (30_encoding.md R70). -/
abbrev Word32 := BitVec 32

/-- A 64-bit word: OUT, SA, SB, SL, one hash input (00_scope.md R5). -/
abbrev Word64 := BitVec 64

/-- A 128-bit word: COUNTER, SELECTOR, an operand bus (00_scope.md R5). -/
abbrev Word128 := BitVec 128

/-- One byte of seed material or of a raw-state layout. -/
abbrev Byte := BitVec 8

/-- A command is the triple `(CMD, OPA, OPB)` sampled when the block accepts it (10_state.md R34). -/
structure Command where
  cmd : Word32
  opa : Word128
  opb : Word128
  deriving DecidableEq, Repr

end Sys2Proof
end

