-- ==== Sys2Proof/Config.lean ====
section
/-! DEFINITION. What an ARS implementation fixes (00_scope.md R6 to R11, 10_state.md R36): the two variants,
the tap choice, the named parameters P_* as one record, and the constraints the spec puts on them. No
parameter is state. The values exec runs are in Machine/Reference.lean. -/

namespace Sys2Proof

/-- The two generators one block implements (R2); the bit is VARIANT (10_state.md R24). -/
inductive Variant where
  | narrow
  | wide
  deriving DecidableEq, Repr

/-- Which counter value DRAW hashes: the one before its step or the one after (R9, 42_stepper.md R126). -/
inductive Tap where
  | pre
  | post
  deriving DecidableEq, Repr

/-- The parameters of an ARS (R6 to R11). -/
structure Config where
  /-- P_MULT_LO, the explicit 64 bits of the multiplier (R6). -/
  multLo : Word64
  /-- P_MULT_X, the multiplier's extra bit, of weight 2^64 (R6, D8). -/
  multX : BitVec 1
  /-- P_INC, the selector-to-increment derivation (R7). -/
  inc : Variant → Word128 → Word128
  /-- P_HASH_N, the narrow output hash (R8). -/
  hashNarrow : Word128 → Word64
  /-- P_HASH_W, the wide output hash; its second argument is SELECTOR[127:64] (R8). -/
  hashWide : Word128 → Word64 → Word64
  /-- P_TAP_N (R9). -/
  tapNarrow : Tap
  /-- P_TAP_W (R9). -/
  tapWide : Tap
  /-- P_SEED_IVA (R11, 45_seeder.md R181). -/
  seedIvA : Word64
  /-- P_SEED_IVB. -/
  seedIvB : Word64
  /-- P_SEED_K0. -/
  seedK0 : Word64
  /-- P_SEED_K1. -/
  seedK1 : Word64
  /-- P_SEED_K2. -/
  seedK2 : Word64
  /-- P_SEED_K3. -/
  seedK3 : Word64

/-- The constraint on the multiplier (R6). -/
def Config.MultiplierOk (k : Config) : Prop := k.multLo.toNat % 4 = 1

/-- The constraint on P_INC: bit 0 of every increment is 1 (R7). -/
def Config.IncrementOdd (k : Config) : Prop := ∀ v s, (k.inc v s).getLsbD 0 = true

/-- Contract (a) of an output hash: for each fixed selector input, every 64-bit word is the image of exactly
2^64 counters (43_output_hash.md R140). -/
def Config.Equidistributed (k : Config) : Prop :=
  (∀ o : Word64, Nat.card { c : Word128 // k.hashNarrow c = o } = 2 ^ 64) ∧
  ∀ t o : Word64, Nat.card { c : Word128 // k.hashWide c t = o } = 2 ^ 64

/-- Every constraint the spec puts on a configuration and a model can state (R6, R7, 43_output_hash.md R140 a).
Contract (b), statistical strength, is no exact rule (log entry 8). -/
structure Config.Contract (k : Config) : Prop where
  multiplierOk : k.MultiplierOk
  incrementOdd : k.IncrementOdd
  equidistributed : k.Equidistributed

end Sys2Proof
end

