-- ==== Sys2Proof/Syntax.lean ====
section
/-! DEFINITION. The ten commands of spec/opcode_table.json with the operands each one reads (30_encoding.md
R73, R75). Operand bits a command ignores are not part of it (R77): JUMP carries no OPB, a SEED_FINAL
without an explicit selector carries none. Bits inside an operand bus that a form ignores (OPB[127:64] of a
narrow selector, OPA[127:8n] of a chunk) stay in the operand; the meaning drops them. -/

namespace Sys2Proof

inductive Instr where
  /-- 0x00 NOP (46_control.md R200). -/
  | nop
  /-- 0x01 LOAD: the variant V, OPA = counter, OPB = selector (41_statemodel.md R100). -/
  | load (v : Variant) (counter selector : Word128)
  /-- 0x02 STEP (42_stepper.md R124). -/
  | step
  /-- 0x03 DRAW (42_stepper.md R125). -/
  | draw
  /-- 0x04 MIX (43_output_hash.md R145). -/
  | mix
  /-- 0x05 JUMP: OPA = delta, a two's-complement signed count (44_jump.md R164). -/
  | jump (delta : Word128)
  /-- 0x06 SEED_INIT (45_seeder.md R183). -/
  | seedInit
  /-- 0x07 SEED_ABSORB: n = NB + 1 bytes of OPA (30_encoding.md R72, 45_seeder.md R184). -/
  | seedAbsorb (n : Nat) (chunk : Word128)
  /-- 0x08 SEED_FINAL: the variant V and, when S = 1, the explicit selector on OPB (45_seeder.md R185). -/
  | seedFinal (v : Variant) (selector : Option Word128)
  /-- 0x09 CLRST (46_control.md R201). -/
  | clrst
  deriving DecidableEq, Repr

end Sys2Proof
end

