-- ==== Sys2Proof/WellFormed.lean ====
section
/-! DEFINITION. Which terms of `Instr` stand for a command: every field but the chunk length ranges over exactly
what its bits can say (30_encoding.md R71 to R74), and the chunk length n ranges over 1..8 (R72). -/

namespace Sys2Proof

/-- The chunk length of SEED_ABSORB is 1..8 (R72); nothing else can be ill-formed (R37, R77). -/
def Instr.wellFormed : Instr → Bool
  | .nop => true
  | .load _ _ _ => true
  | .step => true
  | .draw => true
  | .mix => true
  | .jump _ => true
  | .seedInit => true
  | .seedAbsorb n _ => decide (1 ≤ n) && decide (n ≤ 8)
  | .seedFinal _ _ => true
  | .clrst => true

/-- `Instr.wellFormed` as a proposition. -/
abbrev Instr.WellFormed (i : Instr) : Prop := i.wellFormed = true

end Sys2Proof
end

