-- ==== Sys2Proof/Decode.lean ====
section
/-! DEFINITION. Decoding a command (30_encoding.md R70 to R79), total on every word and every operand pair,
rejecting by name; then the encoder, written from the same tables (R70, R80), and the match/mask table of R75. -/

namespace Sys2Proof

/-- Why a command word is illegal (R76). Both are reported alike, as cause ILL (60_exceptions.md R222). -/
inductive DecodeError where
  /-- R76 (a): OP is in 0x0A..0xFF. -/
  | reservedOpcode (op : BitVec 8)
  /-- R76 (b): a 1 in a bit the opcode does not use; `bits` holds the offending bits in place. -/
  | reservedBits (op : BitVec 8) (bits : Word32)
  deriving DecidableEq, Repr

/-! ## Fields of the word (R70) -/

/-- OP = cmd[7:0]. -/
def opField (w : Word32) : BitVec 8 := w.extractLsb' 0 8

/-- V = cmd[8]. -/
def vField (w : Word32) : Bool := w.getLsbD 8

/-- S = cmd[9]. -/
def sField (w : Word32) : Bool := w.getLsbD 9

/-- NB = cmd[12:10]. -/
def nbField (w : Word32) : BitVec 3 := w.extractLsb' 10 3

/-- The variant a V bit constructs: 0 narrow, 1 wide (R71). -/
def variantOfBit (v : Bool) : Variant := if v then .wide else .narrow

/-- The V bit of a variant. -/
def Variant.bit : Variant → Bool
  | .narrow => false
  | .wide => true

/-! ## Decode (R78) -/

/-- The bits above OP that an opcode uses; none for a reserved opcode (R78). -/
def usedBits (op : BitVec 8) : Option Word32 :=
  match op.toNat with
  | 0x00 => some 0x00000000#32
  | 0x01 => some 0x00000100#32
  | 0x02 => some 0x00000000#32
  | 0x03 => some 0x00000000#32
  | 0x04 => some 0x00000000#32
  | 0x05 => some 0x00000000#32
  | 0x06 => some 0x00000000#32
  | 0x07 => some 0x00001C00#32
  | 0x08 => some 0x00000300#32
  | 0x09 => some 0x00000000#32
  | _ => none

/-- The command an assigned opcode stands for, with its fields (R71, R72, R74) and the operands it reads (R73). -/
def instrOf (c : Command) : Except DecodeError Instr :=
  match (opField c.cmd).toNat with
  | 0x00 => .ok .nop
  | 0x01 => .ok (.load (variantOfBit (vField c.cmd)) c.opa c.opb)
  | 0x02 => .ok .step
  | 0x03 => .ok .draw
  | 0x04 => .ok .mix
  | 0x05 => .ok (.jump c.opa)
  | 0x06 => .ok .seedInit
  | 0x07 => .ok (.seedAbsorb ((nbField c.cmd).toNat + 1) c.opa)
  | 0x08 => .ok (.seedFinal (variantOfBit (vField c.cmd)) (if sField c.cmd then some c.opb else none))
  | 0x09 => .ok .clrst
  | _ => .error (.reservedOpcode (opField c.cmd))

/-- The bits above OP that are 1 and that an opcode with these used bits does not use (R78). -/
def strayBits (w used : Word32) : Word32 := w &&& 0xFFFFFF00#32 &&& ~~~used

/-- Decode (R78). Only the command word can be illegal; operand bits are never checked (R77). -/
def decode (c : Command) : Except DecodeError Instr :=
  match usedBits (opField c.cmd) with
  | none => .error (.reservedOpcode (opField c.cmd))
  | some used =>
    if strayBits c.cmd used = 0#32 then instrOf c
    else .error (.reservedBits (opField c.cmd) (strayBits c.cmd used))

/-! ## Encode (R70, R80) -/

/-- A word with the given OP, V, S and NB fields and all reserved bits 0 (R70). -/
def packWord (op : Word32) (v s : Bool) (nb : Nat) : Word32 :=
  op ||| ((BitVec.ofBool v).setWidth 32 <<< 8) ||| ((BitVec.ofBool s).setWidth 32 <<< 9) ||| (BitVec.ofNat 32 nb <<< 10)

/-- The command word of an instruction (R80). -/
def encodeWord : Instr → Word32
  | .nop => packWord 0x00#32 false false 0
  | .load v _ _ => packWord 0x01#32 v.bit false 0
  | .step => packWord 0x02#32 false false 0
  | .draw => packWord 0x03#32 false false 0
  | .mix => packWord 0x04#32 false false 0
  | .jump _ => packWord 0x05#32 false false 0
  | .seedInit => packWord 0x06#32 false false 0
  | .seedAbsorb n _ => packWord 0x07#32 false false (n - 1)
  | .seedFinal v sel => packWord 0x08#32 v.bit sel.isSome 0
  | .clrst => packWord 0x09#32 false false 0

/-- The OPA value that travels with an instruction; an ignored bus is sent as 0 (R73, R80). -/
def encodeOpa : Instr → Word128
  | .nop => 0
  | .load _ counter _ => counter
  | .step => 0
  | .draw => 0
  | .mix => 0
  | .jump delta => delta
  | .seedInit => 0
  | .seedAbsorb _ chunk => chunk
  | .seedFinal _ _ => 0
  | .clrst => 0

/-- The OPB value that travels with an instruction; an ignored bus is sent as 0 (R73, R80). -/
def encodeOpb : Instr → Word128
  | .nop => 0
  | .load _ _ selector => selector
  | .step => 0
  | .draw => 0
  | .mix => 0
  | .jump _ => 0
  | .seedInit => 0
  | .seedAbsorb _ _ => 0
  | .seedFinal _ selector => selector.getD 0
  | .clrst => 0

/-- The command that performs an instruction. -/
def encode (i : Instr) : Command := ⟨encodeWord i, encodeOpa i, encodeOpb i⟩

/-! ## The match/mask table (R75) -/

/-- One row of R75's match/mask table. -/
structure OpcodeRow where
  mnemonic : String
  pattern : Word32
  mask : Word32
  deriving DecidableEq, Repr

/-- A word matches a row when `(cmd & mask) = match` (R75). -/
abbrev OpcodeRow.Matches (r : OpcodeRow) (w : Word32) : Prop := w &&& r.mask = r.pattern

/-- The row of an instruction's mnemonic (R75). -/
def Instr.row : Instr → OpcodeRow
  | .nop => ⟨"NOP", 0x00000000, 0xFFFFFFFF⟩
  | .load _ _ _ => ⟨"LOAD", 0x00000001, 0xFFFFFEFF⟩
  | .step => ⟨"STEP", 0x00000002, 0xFFFFFFFF⟩
  | .draw => ⟨"DRAW", 0x00000003, 0xFFFFFFFF⟩
  | .mix => ⟨"MIX", 0x00000004, 0xFFFFFFFF⟩
  | .jump _ => ⟨"JUMP", 0x00000005, 0xFFFFFFFF⟩
  | .seedInit => ⟨"SEED_INIT", 0x00000006, 0xFFFFFFFF⟩
  | .seedAbsorb _ _ => ⟨"SEED_ABSORB", 0x00000007, 0xFFFFE3FF⟩
  | .seedFinal _ _ => ⟨"SEED_FINAL", 0x00000008, 0xFFFFFCFF⟩
  | .clrst => ⟨"CLRST", 0x00000009, 0xFFFFFFFF⟩

/-- R75's table, one row a command. -/
def opcodeTable : List OpcodeRow :=
  [Instr.nop.row, (Instr.load .narrow 0 0).row, Instr.step.row, Instr.draw.row, Instr.mix.row,
   (Instr.jump 0).row, Instr.seedInit.row, (Instr.seedAbsorb 1 0).row, (Instr.seedFinal .narrow none).row,
   Instr.clrst.row]

/-! ## The host's numbering of an instruction's bits -/

/-- The command whose bits are `w`, counted from bit 0 of the command word: the word in bits 31..0, OPA in bits
159..32, OPB in bits 287..160; every bit above `nbits` is 0. -/
def commandOfBits (nbits w : Nat) : Command :=
  let bits := w % 2 ^ nbits
  ⟨BitVec.ofNat 32 bits, BitVec.ofNat 128 (bits / 2 ^ 32), BitVec.ofNat 128 (bits / 2 ^ 160)⟩

/-- The instruction the decoder reads from a table word, its operand buses at 0. -/
def decodeTableWord (nbits w : Nat) : Option Instr :=
  match decode (commandOfBits nbits w) with
  | .ok i => some i
  | .error _ => none

end Sys2Proof
end

