-- ==== Sys2Proof/Machine/Bits.lean ====
section
/-! DEFINITION. Slicing, joining and extending words, as 00_scope.md R12 and R13 write them. -/

namespace Sys2Proof

/-- `v[63:0]` (R12). -/
def lo64 (v : Word128) : Word64 := v.extractLsb' 0 64

/-- `v[127:64]` (R12). -/
def hi64 (v : Word128) : Word64 := v.extractLsb' 64 64

/-- `{hi, lo}` (R12). -/
def join64 (hi lo : Word64) : Word128 := hi ++ lo

/-- `zext_128` of a 64-bit value (R13). -/
def zext128 (v : Word64) : Word128 := v.setWidth 128

end Sys2Proof
end

