-- ==== Sys2Proof/Machine/Reference.lean ====
section
/-! DEFINITION. The reference configuration (00_scope.md R10): the reference increment (42_stepper.md R120), the
mixing primitive fmix64 (43_output_hash.md R144), the reference hashes (R142, R143) and constants
(R10, 45_seeder.md R181); and `config`, the configuration the modelled block is built with (log entry 1). -/

namespace Sys2Proof

/-- `fmix64` (R144; the constants stand on the left of each product because the kernel unfolds a numeral on the right of an
open product one by one). The seeder uses it in every configuration (45_seeder.md R184, R185). -/
def fmix64 (z : Word64) : Word64 :=
  let z := z ^^^ (z >>> 30)
  let z := 0xbf58476d1ce4e5b9#64 * z
  let z := z ^^^ (z >>> 27)
  let z := 0x94d049bb133111eb#64 * z
  z ^^^ (z >>> 31)

/-- The reference P_INC: `2*s + 1`, of the 64-bit selector when narrow, mod 2^128 when wide (R120). -/
def refIncrement : Variant → Word128 → Word128
  | .narrow, s => (zext128 (lo64 s) <<< 1) ||| 1#128
  | .wide, s => (s <<< 1) ||| 1#128

/-- The reference P_HASH_N (R142). -/
def refHashNarrow (c : Word128) : Word64 := fmix64 (hi64 c ^^^ fmix64 (lo64 c))

/-- The reference P_HASH_W, `t` being SELECTOR[127:64] (R143). -/
def refHashWide (c : Word128) (t : Word64) : Word64 := fmix64 (hi64 c ^^^ fmix64 (lo64 c ^^^ t))

/-- The reference configuration (R10, R181). -/
def Config.reference : Config where
  multLo := 0xda942042e4dd58b5#64
  multX := 1#1
  inc := refIncrement
  hashNarrow := refHashNarrow
  hashWide := refHashWide
  tapNarrow := .post
  tapWide := .post
  seedIvA := 0x243f6a8885a308d3#64
  seedIvB := 0x13198a2e03707344#64
  seedK0 := 0x9e3779b97f4a7c15#64
  seedK1 := 0x3c6ef372fe94f82a#64
  seedK2 := 0xdaa66d2c7ddf743f#64
  seedK3 := 0x78dde6e5fd29f054#64

/-- The configuration of the modelled block: the reference one. DESIGN CHOICE (log entry 1), unsafe for a block
built with other constants. The operations below take the configuration as an argument. -/
def config : Config := Config.reference

end Sys2Proof
end

