-- ==== Sys2Proof/Machine/State.lean ====
section
/-! DEFINITION. The architectural state of one ARS instance (10_state.md R20), the host's events still to come, the
reasons a step can stop, and the state after reset (70_reset_and_hazards.md R240). -/

namespace Sys2Proof.Machine

/-- The two used bits of STATUS (10_state.md R27), both sticky. Bits 31:2 always read 0 and have no storage. -/
structure Status where
  /-- Bit 0: a command with an illegal encoding was rejected (60_exceptions.md R222). -/
  ill : Bool
  /-- Bit 1: STEP, DRAW, MIX or JUMP was rejected because STATE_VALID = 0 (60_exceptions.md R223). -/
  nost : Bool
  deriving DecidableEq, Repr

/-- What the host does to the block through the input ports CMD, OPA, OPB, CMD_VALID and RST (10_state.md R34). -/
inductive HostEvent where
  /-- The host holds a command on the port until it is accepted (70_reset_and_hazards.md R243). -/
  | command (c : Command)
  /-- The host asserts RST, between two commands or while one is in progress, which is abandoned (R240). -/
  | reset (inProgress : Option Command)
  deriving DecidableEq, Repr

/-- The registers of R20, and the model's own field `inputs`. -/
structure State where
  /-- COUNTER (R21). -/
  counter : Word128
  /-- SELECTOR (R22, R23). -/
  selector : Word128
  /-- VARIANT (R24). -/
  variant : Variant
  /-- STATE_VALID (R25). -/
  stateValid : Bool
  /-- OUT (R26). -/
  out : Word64
  /-- STATUS (R27). -/
  status : Status
  /-- SA, the first mixing lane (R31). -/
  sa : Word64
  /-- SB, the second mixing lane (R31). -/
  sb : Word64
  /-- SL, the count of absorbed bytes mod 2^64 (R31). -/
  sl : Word64
  /-- The model's own: the host's events not yet taken, in order (R29, R34, 20_memory.md R55; log entry 2). -/
  inputs : List HostEvent
  deriving DecidableEq, Repr

/-- The spec stops the machine nowhere: every accepted command completes, and both rejections are completed steps
(70_reset_and_hazards.md R245, 60_exceptions.md R221). So there is no fault, and nothing raises one. -/
inductive Fault where
  deriving DecidableEq, Repr

/-- Why a step has no meaning. -/
inductive Refusal where
  /-- Raised by an arm of `exec` whose instruction has no meaning yet; safe. Every instruction has its meaning, so
  nothing raises it. -/
  | notModelled (mnemonic : String)
  deriving DecidableEq, Repr

/-- Every element at its reset value (R240), for a block of configuration `k`, with nothing offered by the host. -/
def State.resetOf (k : Config) : State where
  counter := 0
  selector := 0
  variant := .narrow
  stateValid := false
  out := 0
  status := ⟨false, false⟩
  sa := k.seedIvA
  sb := k.seedIvB
  sl := 0
  inputs := []

/-- The machine right after reset (R240). -/
def State.reset : State := State.resetOf config

end Sys2Proof.Machine
end

