-- ==== Sys2Proof/Machine/Flags.lean ====
section
/-! DEFINITION. The status bits: the causes of a rejection (60_exceptions.md R222, R223), how a cause sets its bit
(R221), how CLRST clears both (46_control.md R201), and the word and level the host reads (10_state.md R27, R39). -/

namespace Sys2Proof.Machine

/-- The two rejection causes. -/
inductive Cause where
  /-- Code 0: the command word is illegal (R222). -/
  | ill
  /-- Code 1: a generator command while STATE_VALID = 0 (R223). -/
  | nost
  deriving DecidableEq, Repr

/-- The cause's code, which is its STATUS bit number (60_exceptions.md, table of causes). -/
def Cause.code : Cause → Nat
  | .ill => 0
  | .nost => 1

/-- `STATUS[CAUSE] <- 1`, the other bit unchanged (R221). -/
def Status.raise (st : Status) : Cause → Status
  | .ill => { st with ill := true }
  | .nost => { st with nost := true }

/-- Both bits 0: what CLRST and reset leave (R201, R240). -/
def Status.clear : Status := ⟨false, false⟩

/-- The 32-bit word STATUS: ILL in bit 0, NOST in bit 1, bits 31:2 zero (10_state.md R27). -/
def Status.word (st : Status) : Word32 :=
  (BitVec.ofBool st.ill).setWidth 32 ||| ((BitVec.ofBool st.nost).setWidth 32 <<< 1)

/-- ERR_O = STATUS[0] | STATUS[1] (R39). -/
def Status.err (st : Status) : Bool := st.ill || st.nost

end Sys2Proof.Machine
end

