-- ==== Sys2Proof/Machine/Operands.lean ====
section
/-! DEFINITION. The operand forms: what a command takes from its operand buses (30_encoding.md R73). -/

namespace Sys2Proof.Machine

/-- The selector on OPB: `zext_128(OPB[63:0])` for the narrow variant, all of OPB for the wide one
(R73, 10_state.md R23). -/
def selectorOperand (v : Variant) (opb : Word128) : Word128 :=
  match v with
  | .narrow => zext128 (lo64 opb)
  | .wide => opb

/-- The chunk of n bytes in OPA: `OPA[63:0] & (2^(8n) - 1)`, bytes beyond n zero (45_seeder.md R184, D30). -/
def chunkOperand (n : Nat) (opa : Word128) : Word64 :=
  lo64 opa &&& BitVec.ofNat 64 (2 ^ (8 * n) - 1)

/-- The exponent of a jump: all of OPA, read unsigned, which is delta mod 2^128 (44_jump.md R162). -/
def exponentOperand (opa : Word128) : Word128 := opa

end Sys2Proof.Machine
end

