-- ==== Sys2Proof/Machine/Ops.lean ====
section
/-! DEFINITION. The named operations over the registers. Each command is a composition of these; there is no memory
(20_memory.md R50). Rejecting a command is the one shared operation `State.reject` (60_exceptions.md R221):
the spec's whole exception mechanism, with nothing saved and no return (R225, R227). -/

namespace Sys2Proof.Machine

/-- `COUNTER <- c`. -/
def State.withCounter (s : State) (c : Word128) : State := { s with counter := c }

/-- `OUT <- h`. -/
def State.withOut (s : State) (h : Word64) : State := { s with out := h }

/-- `SA <- sa; SB <- sb; SL <- sl`. -/
def State.withAbsorber (s : State) (sa sb sl : Word64) : State := { s with sa := sa, sb := sb, sl := sl }

/-- The host's events still to come. -/
def State.withInputs (s : State) (evs : List HostEvent) : State := { s with inputs := evs }

/-- Construct a generator state: COUNTER, SELECTOR and VARIANT written together, STATE_VALID set
(41_statemodel.md R100, 45_seeder.md R185). -/
def State.construct (s : State) (v : Variant) (counter selector : Word128) : State :=
  { s with counter := counter, selector := selector, variant := v, stateValid := true }

/-- The absorber at the values SEED_INIT leaves (45_seeder.md R183). -/
def State.initAbsorber (s : State) (k : Config) : State := s.withAbsorber k.seedIvA k.seedIvB 0

/-- `reject(CAUSE)`: no effect other than setting the cause's STATUS bit (60_exceptions.md R221). -/
def State.reject (s : State) (cause : Cause) : State := { s with status := s.status.raise cause }

/-- Both STATUS bits cleared (46_control.md R201). -/
def State.clearStatus (s : State) : State := { s with status := Status.clear }

/-- A command that reads the generator state: rejected with NOST while STATE_VALID = 0, else performed
(10_state.md R25, 60_exceptions.md R223, R224). -/
def State.whenConstructed (s : State) (f : State → State) : Host.Outcome State Fault Refusal :=
  if s.stateValid then .next (f s) else .next (s.reject .nost)

/-- RST asserted: every element at its reset value; a command in progress has no effect (70_reset_and_hazards.md
R240). The host's later events are the host's, so they stay (log entry 4). -/
def State.assertReset (s : State) (_inProgress : Option Command) : State := State.reset.withInputs s.inputs

end Sys2Proof.Machine
end

