-- ==== Sys2Proof/Machine/Control.lean ====
section
/-! DEFINITION. Control family: NOP and CLRST (46_control.md). ARS has no control transfer, system or privileged
commands (R202, R203). -/

namespace Sys2Proof.Machine

/-- NOP: no state is written (R200). -/
def execNop (s : State) : Host.Outcome State Fault Refusal := .next s

/-- CLRST: clear the status bits (R201). -/
def execClrst (s : State) : Host.Outcome State Fault Refusal := .next s.clearStatus

end Sys2Proof.Machine
end

