-- ==== Sys2Proof/Machine/OutputHash.lean ====
section
/-! DEFINITION. OutputHash family: the hash of the current variant and MIX (43_output_hash.md). -/

namespace Sys2Proof.Machine

/-- The hash of the current variant: P_HASH_N of the counter, or P_HASH_W of the counter and SELECTOR[127:64]
(R141). -/
def State.hash (s : State) (k : Config) (c : Word128) : Word64 :=
  match s.variant with
  | .narrow => k.hashNarrow c
  | .wide => k.hashWide c (hi64 s.selector)

/-- `OUT <- hash(COUNTER)` (R145). -/
def State.mixed (s : State) (k : Config) : State := s.withOut (s.hash k s.counter)

/-- MIX: hash the current counter without stepping (R145). -/
def execMix (s : State) : Host.Outcome State Fault Refusal := s.whenConstructed (·.mixed config)

end Sys2Proof.Machine
end

