-- ==== Sys2Proof/Machine/Stepper.lean ====
section
/-! DEFINITION. Stepper family: the increment, the step function and its datapath, the tap, STEP and DRAW
(42_stepper.md). -/

namespace Sys2Proof

/-- The 65-bit multiplier `M = P_MULT_X * 2^64 + P_MULT_LO`, over the integers (R6). -/
def Config.multiplier (k : Config) : Nat := 2 ^ 64 * k.multX.toNat + k.multLo.toNat

end Sys2Proof

namespace Sys2Proof.Machine

/-- `INC = P_INC(VARIANT, SELECTOR)` (R120, 10_state.md R28). -/
def State.increment (s : State) (k : Config) : Word128 := k.inc s.variant s.selector

/-- The step function `(M * c + INC) mod 2^128`, the product taken over the integers (R121). -/
def stepCounter (k : Config) (inc c : Word128) : Word128 :=
  BitVec.ofNat 128 (k.multiplier * c.toNat + inc.toNat)

/-- `wmul64`: the exact product of two 64-bit values (R123). -/
def wmul64 (a b : Word64) : Word128 := BitVec.ofNat 128 (a.toNat * b.toNat)

/-- `wmul64` composed of four 32×32→64 partial products (R123). -/
def wmul64Parts (a b : Word64) : Word128 :=
  let half (x : Word64) (start : Nat) : Word64 := (x.extractLsb' start 32).setWidth 64
  let a1 := half a 32
  let a0 := half a 0
  let b1 := half b 32
  let b0 := half b 0
  zext128 (a0 * b0) + (zext128 (a0 * b1) <<< 32) + (zext128 (a1 * b0) <<< 32) + (zext128 (a1 * b1) <<< 64)

/-- The stepper datapath: one widening multiply, one low multiply, additions (R122, with the cross term `q` of
90_conflicts.md C1). `stepCounter` is the normative one. -/
def stepDatapath (k : Config) (inc c : Word128) : Word128 :=
  let lo := lo64 c
  let hi := hi64 c
  let p := wmul64 k.multLo lo
  let q := k.multLo * hi
  let x := if k.multX = 1#1 then zext128 lo <<< 64 else 0#128
  p + (zext128 q <<< 64) + x + inc

/-- The tap of the current variant (R126). -/
def State.tap (s : State) (k : Config) : Tap :=
  match s.variant with
  | .narrow => k.tapNarrow
  | .wide => k.tapWide

/-- `COUNTER <- step(COUNTER)` (R124). -/
def State.stepped (s : State) (k : Config) : State :=
  s.withCounter (stepCounter k (s.increment k) s.counter)

/-- The word DRAW returns: the hash of the counter before or after its step, by the tap (R125, R126). -/
def State.drawWord (s : State) (k : Config) : Word64 :=
  match s.tap k with
  | .pre => s.hash k s.counter
  | .post => s.hash k (stepCounter k (s.increment k) s.counter)

/-- COUNTER stepped and OUT written, together (R125). -/
def State.drawn (s : State) (k : Config) : State := (s.stepped k).withOut (s.drawWord k)

/-- STEP: advance one step without output (R124). -/
def execStep (s : State) : Host.Outcome State Fault Refusal := s.whenConstructed (·.stepped config)

/-- DRAW: advance one step and produce one word (R125). -/
def execDraw (s : State) : Host.Outcome State Fault Refusal := s.whenConstructed (·.drawn config)

end Sys2Proof.Machine
end

