-- ==== Sys2Proof/Machine/Jump.lean ====
section
/-! DEFINITION. Jump family: affine maps, their powers by repeated squaring, and JUMP (44_jump.md). -/

namespace Sys2Proof.Machine

/-- The pair `(A, C)`, standing for `x -> (A*x + C) mod 2^128` (R160). -/
structure AffineMap where
  mul : Word128
  add : Word128
  deriving DecidableEq, Repr

/-- `apply((A, C), x)` (R160). -/
def AffineMap.apply (f : AffineMap) (x : Word128) : Word128 := f.mul * x + f.add

/-- `compose(g, f)`: `g` after `f` (R160). -/
def AffineMap.compose (g f : AffineMap) : AffineMap := ⟨g.mul * f.mul, g.mul * f.add + g.add⟩

/-- The identity `(1, 0)` (R160). -/
def AffineMap.one : AffineMap := ⟨1, 0⟩

/-- The single-step map `S = (M, INC)`, M mod 2^128 (R161). -/
def stepMap (k : Config) (inc : Word128) : AffineMap := ⟨BitVec.ofNat 128 k.multiplier, inc⟩

/-- The accumulated map and the current power after `n` rounds: `(Ma, Ca)` and `S^(2^n)` (R163). -/
def powerRounds (S : AffineMap) (e : Word128) : Nat → AffineMap × AffineMap
  | 0 => (AffineMap.one, S)
  | i + 1 =>
    match powerRounds S e i with
    | (acc, cur) => (if e.getLsbD i then cur.compose acc else acc, cur.compose cur)

/-- The power `S^e`: 128 rounds, least significant bit first, whatever e is (R163). -/
def power (S : AffineMap) (e : Word128) : AffineMap := (powerRounds S e 128).1

/-- The accumulated map when the bits of e are scanned from bit `n - 1` down to bit 0. -/
def powerMsbRounds (S : AffineMap) (e : Word128) : Nat → AffineMap → AffineMap
  | 0, acc => acc
  | i + 1, acc =>
    powerMsbRounds S e i (if e.getLsbD i then S.compose (acc.compose acc) else acc.compose acc)

/-- The order of rounds an implementation may choose instead: most significant bit first (R163, D29). -/
def powerMsbFirst (S : AffineMap) (e : Word128) : AffineMap := powerMsbRounds S e 128 AffineMap.one

/-- `COUNTER <- S^e applied to COUNTER` (R164). -/
def State.jumped (s : State) (k : Config) (e : Word128) : State :=
  s.withCounter ((power (stepMap k (s.increment k)) e).apply s.counter)

/-- JUMP: reposition the counter by a signed count (R164). -/
def execJump (delta : Word128) (s : State) : Host.Outcome State Fault Refusal :=
  s.whenConstructed (·.jumped config (exponentOperand delta))

end Sys2Proof.Machine
end

