-- ==== Sys2Proof/Machine/Seeder.lean ====
section
/-! DEFINITION. Seeder family: SEED_INIT, SEED_ABSORB, SEED_FINAL (45_seeder.md). -/

namespace Sys2Proof.Machine

/-- Absorb one chunk of n bytes; SB mixes in the new SA (R184). -/
def State.absorbed (s : State) (n : Nat) (chunk : Word128) : State :=
  let sa := fmix64 (s.sa ^^^ chunkOperand n chunk)
  let sb := fmix64 (s.sb ^^^ sa)
  s.withAbsorber sa sb (s.sl + BitVec.ofNat 64 n)

/-- `a = fmix64(SA ^ SL)` (R185). -/
def State.finalA (s : State) : Word64 := fmix64 (s.sa ^^^ s.sl)

/-- `b = fmix64(SB ^ a)` (R185). -/
def State.finalB (s : State) : Word64 := fmix64 (s.sb ^^^ s.finalA)

/-- `o[j] = fmix64(fmix64(a ^ P_SEED_Kj) ^ b)`, for the constant Kj (R185). -/
def State.finalWord (s : State) (kj : Word64) : Word64 := fmix64 (fmix64 (s.finalA ^^^ kj) ^^^ s.finalB)

/-- The constructed COUNTER `{o[1], o[0]}`: it depends on the material alone (R185). -/
def State.seedCounter (s : State) (k : Config) : Word128 := join64 (s.finalWord k.seedK1) (s.finalWord k.seedK0)

/-- The selector derived from the material when none is given (R185, R188). -/
def State.derivedSelector (s : State) (k : Config) : Variant → Word128
  | .narrow => zext128 (s.finalWord k.seedK2)
  | .wide => join64 (s.finalWord k.seedK3) (s.finalWord k.seedK2)

/-- The constructed SELECTOR: the explicit one, or the derived one (R185). -/
def State.seedSelector (s : State) (k : Config) (v : Variant) : Option Word128 → Word128
  | some opb => selectorOperand v opb
  | none => s.derivedSelector k v

/-- The generator state constructed and the absorber reinitialised, together (R185). -/
def State.seeded (s : State) (k : Config) (v : Variant) (sel : Option Word128) : State :=
  (s.construct v (s.seedCounter k) (s.seedSelector k v sel)).initAbsorber k

/-- SEED_INIT: begin absorption (R183). -/
def execSeedInit (s : State) : Host.Outcome State Fault Refusal := .next (s.initAbsorber config)

/-- SEED_ABSORB: absorb one chunk of n = NB + 1 bytes (R184). -/
def execSeedAbsorb (n : Nat) (chunk : Word128) (s : State) : Host.Outcome State Fault Refusal :=
  .next (s.absorbed n chunk)

/-- SEED_FINAL: finish absorption and construct the state (R185). -/
def execSeedFinal (v : Variant) (sel : Option Word128) (s : State) : Host.Outcome State Fault Refusal :=
  .next (s.seeded config v sel)

end Sys2Proof.Machine
end

