-- ==== Sys2Proof/Machine/StateModel.lean ====
section
/-! DEFINITION. StateModel family: LOAD (41_statemodel.md). clone and equals, host procedures, are in
Machine/Adapter.lean. -/

namespace Sys2Proof.Machine

/-- LOAD: construct a state from raw bits; never rejected for its operands (R100). -/
def execLoad (v : Variant) (counter selector : Word128) (s : State) : Host.Outcome State Fault Refusal :=
  .next (s.construct v counter (selectorOperand v selector))

end Sys2Proof.Machine
end

