-- ==== Sys2Proof/Machine/Dispatch.lean ====
section
/-! DEFINITION. exec: the meaning of each decoded command (30_encoding.md R75), one arm a constructor. -/

namespace Sys2Proof.Machine

def exec (i : Instr) (s : State) : Host.Outcome State Fault Refusal :=
  match i with
  | .nop => Sys2Proof.Machine.execNop s
  | .load v counter selector => Sys2Proof.Machine.execLoad v counter selector s
  | .step => Sys2Proof.Machine.execStep s
  | .draw => Sys2Proof.Machine.execDraw s
  | .mix => Sys2Proof.Machine.execMix s
  | .jump delta => Sys2Proof.Machine.execJump delta s
  | .seedInit => Sys2Proof.Machine.execSeedInit s
  | .seedAbsorb n chunk => Sys2Proof.Machine.execSeedAbsorb n chunk s
  | .seedFinal v selector => Sys2Proof.Machine.execSeedFinal v selector s
  | .clrst => Sys2Proof.Machine.execClrst s

end Sys2Proof.Machine
end

