-- ==== Sys2Proof/Machine/Accept.lean ====
section
/-! DEFINITION. Accepting what the host offers: performing one command word with its operands
(60_exceptions.md R224), asserting RST (70_reset_and_hazards.md R240), and waiting (20_memory.md R59). -/

namespace Sys2Proof.Machine

/-- Perform one command: an illegal word is rejected with ILL; a legal one is executed (R222, R224). -/
def perform (c : Command) (s : State) : Host.Outcome State Fault Refusal :=
  match decode c with
  | .error _ => .next (s.reject .ill)
  | .ok i => exec i s

/-- Take the host's next event. With none offered the block waits: its state stays as it is (log entry 3). -/
def acceptNext (s : State) : Host.Outcome State Fault Refusal :=
  match s.inputs with
  | [] => .next s
  | .command c :: rest => perform c (s.withInputs rest)
  | .reset inProgress :: rest => .next ((s.withInputs rest).assertReset inProgress)

/-- The host offers these events before those it already has to come. -/
def State.offer (s : State) (evs : List HostEvent) : State := s.withInputs (evs ++ s.inputs)

end Sys2Proof.Machine
end

