-- ==== Sys2Proof/Machine/Step.lean ====
section
/-! DEFINITION. One step of the machine: the host's next event, taken whole (20_memory.md R55, R56; 70_reset_and_hazards.md
R243: each accepted command is one atomic step). ARS fetches nothing (10_state.md R29): a program is the host's
ordered list of events, held in `inputs`. -/

namespace Sys2Proof.Machine

def step (s : State) : Host.Outcome State Fault Refusal := acceptNext s

/-- `s` with the command whose bits are `w` as the next event the host offers (log entry 2). -/
def State.withFetchWord (s : State) (nbits w : Nat) : State := s.offer [.command (commandOfBits nbits w)]

end Sys2Proof.Machine
end

