-- ==== Sys2Proof/Machine/Ports.lean ====
section
/-! DEFINITION. The block's read interface (10_state.md R33, R39): each output as a function of the state the last
completed command left. Reading has no side effect (20_memory.md R57), so no port changes the state. -/

namespace Sys2Proof.Machine

/-- The eight outputs of R33. -/
structure Ports where
  counterO : BitVec 128
  selectorO : BitVec 128
  variantO : BitVec 1
  stateValidO : BitVec 1
  outO : BitVec 64
  statusO : BitVec 32
  errO : BitVec 1
  cmdReady : BitVec 1
  deriving DecidableEq, Repr

/-- What the ports show. A state of the model stands between two commands, where the block can accept the next, so
CMD_READY is 1 (70_reset_and_hazards.md R243; log entry 5). -/
def State.ports (s : State) : Ports where
  counterO := s.counter
  selectorO := s.selector
  variantO := BitVec.ofBool s.variant.bit
  stateValidO := BitVec.ofBool s.stateValid
  outO := s.out
  statusO := s.status.word
  errO := BitVec.ofBool s.status.err
  cmdReady := 1#1

end Sys2Proof.Machine
end

