-- ==== Sys2Proof/Machine/Adapter.lean ====
section
/-! DEFINITION. What the host's adapter does around the block, as plain functions; none is a step of the machine:
clone and equals (41_statemodel.md R101, R102), the raw-state byte layout and its import (20_memory.md R54, R63),
the canonical chunking and the seeding function (45_seeder.md R187, R186). -/

namespace Sys2Proof.Machine

/-- Perform a list of instructions one after another, each seeing the result of the one before (20_memory.md R55). -/
def execAll : List Instr → State → Host.Outcome State Fault Refusal
  | [], s => .next s
  | i :: is, s =>
    match exec i s with
    | .next t => execAll is t
    | .fault r => .fault r
    | .refused r => .refused r

/-! ## clone and equals -/

/-- clone(): LOAD with V = VARIANT_O, OPA = COUNTER_O, OPB = SELECTOR_O; defined only when STATE_VALID_O = 1 (R101). -/
def State.cloneCommand (s : State) : Option Command :=
  if s.ports.stateValidO = 1#1 then
    some ⟨packWord 0x01#32 (s.ports.variantO == 1#1) false 0, s.ports.counterO, s.ports.selectorO⟩
  else none

/-- equals(other): two constructed states are equal exactly when COUNTER, SELECTOR and VARIANT are all equal (R102).
DESIGN CHOICE (log entry 15), unsafe: R102 speaks of constructed states only; where one or both have STATE_VALID = 0, this
compares the same three registers and leaves STATE_VALID out. -/
def State.sameGenerator (a b : State) : Bool :=
  a.counter == b.counter && a.selector == b.selector && decide (a.variant = b.variant)

/-! ## Bytes, the low one first -/

/-- The `n` low bytes of a value, byte k being `x[8k+7:8k]`. -/
def bytesLE (n : Nat) (x : Word128) : List Byte := (List.range n).map fun k => x.extractLsb' (8 * k) 8

/-- The number whose byte k is the k-th of the list. -/
def natOfBytesLE : List Byte → Nat
  | [] => 0
  | b :: bs => b.toNat + 256 * natOfBytesLE bs

/-! ## The raw-state layout -/

/-- 24 bytes for the narrow variant, 32 for the wide one (R54). -/
def rawLength : Variant → Nat
  | .narrow => 24
  | .wide => 32

/-- Export: COUNTER in 16 bytes, then the selector in 8 (narrow) or 16 (wide), all little-endian (R54). It reads the
registers whatever STATE_VALID is (DESIGN CHOICE, log entry 15). -/
def State.exportRaw (s : State) : List Byte :=
  match s.variant with
  | .narrow => bytesLE 16 s.counter ++ bytesLE 8 s.selector
  | .wide => bytesLE 16 s.counter ++ bytesLE 16 s.selector

/-- Import: the LOAD to issue, or `none`, the adapter's rejection of a wrong length (R63). -/
def importRaw (v : Variant) (bytes : List Byte) : Option Instr :=
  if bytes.length = rawLength v then
    some (.load v (BitVec.ofNat 128 (natOfBytesLE (bytes.take 16))) (BitVec.ofNat 128 (natOfBytesLE (bytes.drop 16))))
  else none

/-! ## Seeding -/

/-- Chunk i of a byte string: bytes `8i .. min(8i+7, L-1)` (R187). -/
def chunkBytes (m : List Byte) (i : Nat) : List Byte := (m.drop (8 * i)).take 8

/-- The SEED_ABSORBs of a byte string cut canonically: `ceil(L/8)` of them (R187). -/
def canonicalChunks (m : List Byte) : List Instr :=
  (List.range ((m.length + 7) / 8)).map fun i =>
    .seedAbsorb (chunkBytes m i).length (BitVec.ofNat 128 (natOfBytesLE (chunkBytes m i)))

/-- The commands of `Seed(m, V, sel?)` (R186). -/
def seedSequence (m : List Byte) (v : Variant) (sel : Option Word128) : List Instr :=
  .seedInit :: (canonicalChunks m ++ [.seedFinal v sel])

end Sys2Proof.Machine
end

