-- ==== Sys2Proof/Machine/Assembler.lean ====
section
/-! DEFINITION. The spec's assembler forms (30_encoding.md R80), read from and written as text, and pseudo-instructions
(R81), as the commands they stand for. All of it is the host's; the block sees only command words (log entry 9). -/

namespace Sys2Proof.Machine

/-- A 128-bit operand as written: a negative number stands for its two's complement mod 2^128, and JUMP's count is taken
mod 2^128 (R80). DESIGN CHOICE (log entry 14), unsafe for a claim about such a literal: a non-negative one of another
command (LOAD, SEED.ABSORB, SEED.FINAL) that does not fit 128 bits, of which R80 says nothing, is taken mod 2^128 too. -/
def asmOperand (d : Int) : Word128 := BitVec.ofInt 128 d

/-- One line of R80's table. -/
inductive AsmLine where
  | nop
  | load (v : Variant) (c s : Int)
  | step
  | draw
  | mix
  | jump (d : Int)
  | seedInit
  | seedAbsorb (n : Nat) (w : Int)
  | seedFinal (v : Variant) (sel : Option Int)
  | clrst
  deriving DecidableEq, Repr

/-- The letter of a variant suffix. -/
def variantSuffix : Variant → String
  | .narrow => ".N"
  | .wide => ".W"

/-- The text of a line (R80), its operands in signed decimal, one of the two spellings R80 allows (log entry 14). -/
def AsmLine.text : AsmLine → String
  | .nop => "NOP"
  | .load v c s => "LOAD" ++ variantSuffix v ++ " " ++ toString c ++ ", " ++ toString s
  | .step => "STEP"
  | .draw => "DRAW"
  | .mix => "MIX"
  | .jump d => "JUMP " ++ toString d
  | .seedInit => "SEED.INIT"
  | .seedAbsorb n w => "SEED.ABSORB " ++ toString n ++ ", " ++ toString w
  | .seedFinal v none => "SEED.FINAL" ++ variantSuffix v
  | .seedFinal v (some s) => "SEED.FINAL" ++ variantSuffix v ++ " " ++ toString s
  | .clrst => "CLRST"

/-- The instruction a line stands for (R80). -/
def AsmLine.instr : AsmLine → Instr
  | .nop => .nop
  | .load v c s => .load v (asmOperand c) (asmOperand s)
  | .step => .step
  | .draw => .draw
  | .mix => .mix
  | .jump d => .jump (asmOperand d)
  | .seedInit => .seedInit
  | .seedAbsorb n w => .seedAbsorb n (asmOperand w)
  | .seedFinal v sel => .seedFinal v (sel.map asmOperand)
  | .clrst => .clrst

/-- The command a line assembles to, its unused operands sent as 0; `none` for a chunk length outside 1..8 (R72, R80). -/
def AsmLine.assemble (l : AsmLine) : Option Command :=
  if l.instr.wellFormed then some (encode l.instr) else none

/-! ### Reading a line of text (R80) -/

/-- The value of a digit in a base of at most 16; hex letters of either case (log entry 14). -/
def digitValue (c : Char) : Option Nat :=
  if '0'.toNat ≤ c.toNat ∧ c.toNat ≤ '9'.toNat then some (c.toNat - '0'.toNat)
  else if 'a'.toNat ≤ c.toNat ∧ c.toNat ≤ 'f'.toNat then some (c.toNat - 'a'.toNat + 10)
  else if 'A'.toNat ≤ c.toNat ∧ c.toNat ≤ 'F'.toNat then some (c.toNat - 'A'.toNat + 10)
  else none

/-- The number of a string of digits, after a value already read; `none` at a character that is no digit of the base. -/
def digitsValue (base : Nat) : List Char → Nat → Option Nat
  | [], acc => some acc
  | c :: cs, acc =>
    match digitValue c with
    | some d => if d < base then digitsValue base cs (base * acc + d) else none
    | none => none

/-- A numeral of at least one digit. -/
def numeral (base : Nat) (cs : List Char) : Option Nat :=
  match cs with
  | [] => none
  | _ :: _ => digitsValue base cs 0

/-- An operand: a hex literal or a signed decimal (R80). DESIGN CHOICE (log entry 14), safe: `0x` is the only hex prefix,
a hex literal has no sign, and a decimal has no plus sign; R80 settles none of these. -/
def readOperand : List Char → Option Int
  | '0' :: 'x' :: cs => (numeral 16 cs).map Int.ofNat
  | '-' :: cs => (numeral 10 cs).map fun n => -(n : Int)
  | cs => (numeral 10 cs).map Int.ofNat

/-- The words of a line: a semicolon starts a comment (R80); spaces and commas separate alike (log entries 9, 14). -/
def lineWords (line : List Char) : List (List Char) :=
  ((line.takeWhile (· ≠ ';')).foldr (fun c acc =>
    if c = ' ' ∨ c = ',' then [] :: acc
    else match acc with
      | [] => [[c]]
      | w :: ws => (c :: w) :: ws) [[]]).filter (· ≠ [])

/-- The line a text stands for, if it is one of R80's forms; mnemonics in capitals as R80 prints them (log entry 14). -/
def readLine (line : List Char) : Option AsmLine :=
  match lineWords line with
  | [] => none
  | m :: operands =>
    match String.ofList m, operands.mapM readOperand with
    | "NOP", some [] => some .nop
    | "LOAD.N", some [c, s] => some (.load .narrow c s)
    | "LOAD.W", some [c, s] => some (.load .wide c s)
    | "STEP", some [] => some .step
    | "DRAW", some [] => some .draw
    | "MIX", some [] => some .mix
    | "JUMP", some [d] => some (.jump d)
    | "SEED.INIT", some [] => some .seedInit
    | "SEED.ABSORB", some [n, w] => if 0 ≤ n then some (.seedAbsorb n.toNat w) else none
    | "SEED.FINAL.N", some [] => some (.seedFinal .narrow none)
    | "SEED.FINAL.N", some [s] => some (.seedFinal .narrow (some s))
    | "SEED.FINAL.W", some [] => some (.seedFinal .wide none)
    | "SEED.FINAL.W", some [s] => some (.seedFinal .wide (some s))
    | "CLRST", some [] => some .clrst
    | _, _ => none

/-! ### Pseudo-instructions -/

/-- The pseudo-instructions (R81). -/
inductive Pseudo where
  | reposition (d : Int)
  | back (n : Nat)
  | peek
  | construct (v : Variant) (bytes : List Byte) (sel : Option Int)
  | importState (v : Variant) (bytes : List Byte)
  deriving DecidableEq, Repr

/-- The instructions a pseudo-instruction expands to; `none` for a count BACK does not take and for a byte string of
the wrong length, which the adapter rejects (R81, 20_memory.md R63). -/
def Pseudo.expand : Pseudo → Option (List Instr)
  | .reposition d => some [.jump (asmOperand d)]
  | .back n => if n ≤ 2 ^ 127 then some [.jump (asmOperand (-(n : Int)))] else none
  | .peek => some [.mix]
  | .construct v bytes sel => some (seedSequence bytes v (sel.map asmOperand))
  | .importState v bytes => (importRaw v bytes).map fun i => [i]

end Sys2Proof.Machine
end

