-- ==== Sys2Proof/Safety.lean ====
section
/-! DEFINITION. What counts as a safe run, and the invariants of the machine, in the terms claims use. -/

namespace Sys2Proof

open Sys2Proof.Machine

/-- No command has been rejected since the last clear: the premise with which a claim excludes rejected runs
(60_exceptions.md R221). -/
abbrev NoRejection (s : State) : Prop := s.status = Status.clear

/-- While VARIANT = 0, SELECTOR[127:64] = 0 (10_state.md R23). -/
abbrev NarrowSelectorZero (s : State) : Prop := s.variant = .narrow → hi64 s.selector = 0

/-- While no generator state has been constructed, its registers and OUT still hold their reset values: only LOAD and
SEED_FINAL write the former, and DRAW and MIX are rejected (10_state.md R20, R25). -/
abbrev UnconstructedAtReset (s : State) : Prop :=
  s.stateValid = false → s.counter = 0 ∧ s.selector = 0 ∧ s.variant = .narrow ∧ s.out = 0

/-- The invariant of every run. -/
structure RunInvariant (s : State) : Prop where
  narrowSelectorZero : NarrowSelectorZero s
  unconstructedAtReset : UnconstructedAtReset s

/-- An illegal command word, in the words of 30_encoding.md R76: (a) an unassigned opcode, or (b) a 1 in a bit the
opcode does not use. -/
abbrev IllegalWord (w : Word32) : Prop :=
  let op := (w.extractLsb' 0 8).toNat
  0x0A ≤ op ∨ w.extractLsb' 13 19 ≠ 0 ∨ (w.getLsbD 8 = true ∧ op ≠ 0x01 ∧ op ≠ 0x08) ∨
    (w.getLsbD 9 = true ∧ op ≠ 0x08) ∨ (w.extractLsb' 10 3 ≠ 0 ∧ op ≠ 0x07)

/-- The commands that read the generator state (60_exceptions.md R223). -/
def Instr.readsGenerator : Instr → Bool
  | .nop => false
  | .load _ _ _ => false
  | .step => true
  | .draw => true
  | .mix => true
  | .jump _ => true
  | .seedInit => false
  | .seedAbsorb _ _ => false
  | .seedFinal _ _ => false
  | .clrst => false

/-- `Instr.readsGenerator` as a proposition. -/
abbrev ReadsGenerator (i : Instr) : Prop := i.readsGenerator = true

/-- The seeding commands (45_seeder.md R182). -/
def Instr.isSeeding : Instr → Bool
  | .nop => false
  | .load _ _ _ => false
  | .step => false
  | .draw => false
  | .mix => false
  | .jump _ => false
  | .seedInit => true
  | .seedAbsorb _ _ => true
  | .seedFinal _ _ => true
  | .clrst => false

/-- `Instr.isSeeding` as a proposition. -/
abbrev IsSeeding (i : Instr) : Prop := i.isSeeding = true

/-- Two commands that send the same word and agree on every operand bit that word's command reads: OPA for LOAD and JUMP,
OPA[8n-1:0] for SEED_ABSORB, and OPB (its low half when V = 0) for LOAD and for SEED_FINAL with S = 1
(30_encoding.md R73, R77). -/
abbrev SameUsedBits (c d : Command) : Prop :=
  let op := (c.cmd.extractLsb' 0 8).toNat
  let bits := 8 * ((c.cmd.extractLsb' 10 3).toNat + 1)
  c.cmd = d.cmd ∧
  (op = 0x01 ∨ op = 0x05 → c.opa = d.opa) ∧
  (op = 0x07 → c.opa.toNat % 2 ^ bits = d.opa.toNat % 2 ^ bits) ∧
  (op = 0x01 ∨ (op = 0x08 ∧ c.cmd.getLsbD 9 = true) →
    if c.cmd.getLsbD 8 = true then c.opb = d.opb else c.opb.extractLsb' 0 64 = d.opb.extractLsb' 0 64)

/-- The commands that construct a generator state (10_state.md R25). -/
def Instr.constructs : Instr → Bool
  | .nop => false
  | .load _ _ _ => true
  | .step => false
  | .draw => false
  | .mix => false
  | .jump _ => false
  | .seedInit => false
  | .seedAbsorb _ _ => false
  | .seedFinal _ _ => true
  | .clrst => false

/-- `Instr.constructs` as a proposition. -/
abbrev Constructs (i : Instr) : Prop := i.constructs = true

end Sys2Proof
end

