-- ==== Sys2Proof/Certificates/Slice0/Obligations.lean ====
section
/-! DEFINITION. The statements about the machine, each formalising a rule of the spec or resting on sections of it
(OBLIGATIONS.json names which). Formulas are written out here from the rule, not through the model's operations,
wherever the rule gives a formula. -/

open Sys2Proof Sys2Proof.Machine

/-! ## The step -/

/-- A step whose next event is a legal command is exec of the decoded command, the event taken off the list. The list
`inputs` is the model's own (log entry 2). -/
def Obligations.StepRunsDecodedCommand : Prop :=
  ∀ (s : State) (c : Command) (rest : List HostEvent) (i : Instr),
    s.inputs = .command c :: rest → decode c = .ok i → i.WellFormed ∧ step s = exec i { s with inputs := rest }

/-- The other events: none offered (the block waits), RST (with whatever command it abandons), an illegal word; and
every step answers a next state. The list `inputs` and the waiting step are the model's own (log entries 2 to 4). -/
def Obligations.StepTakesOneEvent : Prop :=
  (∀ s : State, s.inputs = [] → step s = .next s) ∧
  (∀ (s : State) (p : Option Command) (rest : List HostEvent), s.inputs = .reset p :: rest →
    step s = .next { State.reset with inputs := rest }) ∧
  (∀ (s : State) (c : Command) (rest : List HostEvent), s.inputs = .command c :: rest → IllegalWord c.cmd →
    step s = .next { s with inputs := rest, status := { s.status with ill := true } }) ∧
  ∀ s : State, ∃ t, step s = .next t

/-- Commands offered in order are performed in order, each on the state the ones before it left: as many steps as
commands run them all, and no command touches the events still to come (20_memory.md R55; the list `inputs` is the
model's own, log entry 2). -/
def Obligations.RunIsSequential : Prop :=
  (∀ (is : List Instr) (s : State) (rest : List HostEvent), (∀ i ∈ is, i.WellFormed) →
    s.inputs = is.map (fun i => .command (encode i)) ++ rest →
    Host.Core.run core is.length s = execAll is { s with inputs := rest }) ∧
  ∀ (i : Instr) (s t : State), exec i s = .next t → t.inputs = s.inputs

/-- R245. -/
def Obligations.EveryCommandCompletes : Prop :=
  (∀ (i : Instr) (s : State), ∃ t, exec i s = .next t) ∧ ∀ (c : Command) (s : State), ∃ t, perform c s = .next t

/-! ## Invariants -/

/-- Every step keeps the invariant, from every state that has it. -/
def Obligations.InvariantKeptByEveryStep : Prop :=
  ∀ s t : State, RunInvariant s → step s = .next t → RunInvariant t

/-- The state after reset has the invariant. -/
def Obligations.InvariantHoldsAtReset : Prop := RunInvariant State.reset

/-- R23: the narrow selector's upper half is zero and every command keeps it so; LOAD and SEED_FINAL write it so
from any state; and the narrow state is then determined by COUNTER and SELECTOR[63:0]. -/
def Obligations.NarrowSelectorUpperHalfZero : Prop :=
  NarrowSelectorZero State.reset ∧
  (∀ (c : Command) (s t : State), NarrowSelectorZero s → perform c s = .next t → NarrowSelectorZero t) ∧
  (∀ (c sel : Word128) (s : State), ∃ t, exec (.load .narrow c sel) s = .next t ∧
    t.selector = (sel.extractLsb' 0 64).setWidth 128) ∧
  (∀ (sel : Option Word128) (s : State), ∃ t, exec (.seedFinal .narrow sel) s = .next t ∧
    t.selector = (t.selector.extractLsb' 0 64).setWidth 128) ∧
  ∀ s t : State, NarrowSelectorZero s → NarrowSelectorZero t → s.variant = .narrow → t.variant = .narrow →
    s.selector.extractLsb' 0 64 = t.selector.extractLsb' 0 64 → s.selector = t.selector

/-! ## Encoding -/

/-- R76: which words are illegal, by (a) and (b) and equivalently by the match/mask table, and what an illegal word
does. -/
def Obligations.IllegalWordRejected : Prop :=
  ∀ (w : Word32) (a b : Word128),
    ((∃ e, decode ⟨w, a, b⟩ = .error e) ↔ IllegalWord w) ∧
    (IllegalWord w ↔ ∀ r ∈ opcodeTable, w &&& r.mask ≠ r.pattern) ∧
    (IllegalWord w → ∀ s : State, perform ⟨w, a, b⟩ s = .next { s with status := { s.status with ill := true } })

/-- R75: the match and mask of each command, and what a word that matches decodes to, its fields and operands taken
from where R70 and R73 put them. -/
def Obligations.OpcodeMap : Prop :=
  ∀ (w : Word32) (a b : Word128),
    (w &&& 0xFFFFFFFF = 0x00000000 ↔ decode ⟨w, a, b⟩ = .ok .nop) ∧
    (w &&& 0xFFFFFEFF = 0x00000001 ↔
      decode ⟨w, a, b⟩ = .ok (.load (if w.getLsbD 8 then .wide else .narrow) a b)) ∧
    (w &&& 0xFFFFFFFF = 0x00000002 ↔ decode ⟨w, a, b⟩ = .ok .step) ∧
    (w &&& 0xFFFFFFFF = 0x00000003 ↔ decode ⟨w, a, b⟩ = .ok .draw) ∧
    (w &&& 0xFFFFFFFF = 0x00000004 ↔ decode ⟨w, a, b⟩ = .ok .mix) ∧
    (w &&& 0xFFFFFFFF = 0x00000005 ↔ decode ⟨w, a, b⟩ = .ok (.jump a)) ∧
    (w &&& 0xFFFFFFFF = 0x00000006 ↔ decode ⟨w, a, b⟩ = .ok .seedInit) ∧
    (w &&& 0xFFFFE3FF = 0x00000007 ↔
      decode ⟨w, a, b⟩ = .ok (.seedAbsorb ((w.extractLsb' 10 3).toNat + 1) a)) ∧
    (w &&& 0xFFFFFCFF = 0x00000008 ↔
      decode ⟨w, a, b⟩ = .ok (.seedFinal (if w.getLsbD 8 then .wide else .narrow)
        (if w.getLsbD 9 then some b else none))) ∧
    (w &&& 0xFFFFFFFF = 0x00000009 ↔ decode ⟨w, a, b⟩ = .ok .clrst) ∧
    (0x0A ≤ (w.extractLsb' 0 8).toNat → ∃ e, decode ⟨w, a, b⟩ = .error e)

/-- Decode of encode is the identity on every well-formed instruction, every operand at every value. -/
def Obligations.DecodeOfEncode : Prop := ∀ i : Instr, i.WellFormed → decode (encode i) = .ok i

/-- Each command has one word and each word one command: what a word decodes to is well-formed and encodes back to that
word, performing the re-encoded command is performing the command, and at most one row of R75's table matches a word. -/
def Obligations.EncodeOfDecode : Prop :=
  (∀ (c : Command) (i : Instr), decode c = .ok i →
    i.WellFormed ∧ (encode i).cmd = c.cmd ∧ ∀ s, perform (encode i) s = perform c s) ∧
  ∀ w : Word32, ∀ r ∈ opcodeTable, ∀ r' ∈ opcodeTable,
    w &&& r.mask = r.pattern → w &&& r'.mask = r'.pattern → r = r'

/-- R72: n = NB + 1 ranges over 1..8, every NB is legal, empty material is no SEED_ABSORB, and for every other opcode NB
is reserved. -/
def Obligations.ChunkLengthField : Prop :=
  (∀ (w : Word32) (a b : Word128), w.extractLsb' 0 8 = 0x07 → w &&& 0xFFFFE300 = 0 →
    decode ⟨w, a, b⟩ = .ok (.seedAbsorb ((w.extractLsb' 10 3).toNat + 1) a)) ∧
  (∀ nb : BitVec 3, 1 ≤ nb.toNat + 1 ∧ nb.toNat + 1 ≤ 8) ∧
  (∀ n, 1 ≤ n → n ≤ 8 → ∃ nb : BitVec 3, nb.toNat + 1 = n) ∧
  canonicalChunks [] = [] ∧
  ∀ (w : Word32) (a b : Word128), w.extractLsb' 0 8 ≠ 0x07 → w.extractLsb' 10 3 ≠ 0 →
    ∃ e, decode ⟨w, a, b⟩ = .error e

/-- R71 and R74: V is written to VARIANT by LOAD and SEED_FINAL, S chooses SEED_FINAL's selector (OPB, or the one
derived from the material), and each is a reserved bit for every other opcode. -/
def Obligations.VariantAndSelectorFields : Prop :=
  (∀ (w : Word32) (a b : Word128) (s : State), ¬ IllegalWord w →
    w.extractLsb' 0 8 = 0x01 ∨ w.extractLsb' 0 8 = 0x08 →
    ∃ t, perform ⟨w, a, b⟩ s = .next t ∧ t.variant = if w.getLsbD 8 then .wide else .narrow) ∧
  (∀ (w : Word32) (a b : Word128) (s : State), ¬ IllegalWord w → w.extractLsb' 0 8 = 0x08 →
    ∃ t, perform ⟨w, a, b⟩ s = .next t ∧
      (w.getLsbD 9 = true → t.selector = if w.getLsbD 8 then b else (b.extractLsb' 0 64).setWidth 128) ∧
      (w.getLsbD 9 = false → ∀ (b' : Word128) (r : State), r.sa = s.sa → r.sb = s.sb → r.sl = s.sl →
        ∃ u, perform ⟨w, a, b'⟩ r = .next u ∧ u.selector = t.selector)) ∧
  (∀ (w : Word32) (a b : Word128), w.getLsbD 8 = true → w.extractLsb' 0 8 ≠ 0x01 → w.extractLsb' 0 8 ≠ 0x08 →
    ∃ e, decode ⟨w, a, b⟩ = .error e) ∧
  ∀ (w : Word32) (a b : Word128), w.getLsbD 9 = true → w.extractLsb' 0 8 ≠ 0x08 →
    ∃ e, decode ⟨w, a, b⟩ = .error e

/-- R77: operand bits a command ignores have no effect, and only the command word can be illegal. -/
def Obligations.IgnoredOperandBits : Prop :=
  (∀ (c d : Command) (s : State), SameUsedBits c d → perform c s = perform d s) ∧
  ∀ (w : Word32) (a b a' b' : Word128),
    (∃ e, decode ⟨w, a, b⟩ = .error e) → ∃ e, decode ⟨w, a', b'⟩ = .error e

/-- Words written out bit by bit from R70's format: NOP, LOAD.W, SEED.ABSORB 3, SEED.FINAL.W with a selector, JUMP,
CLRST, and two illegal ones. The names under which the illegal ones fail are the model's choice (log entry 11): the spec
has the one cause ILL for both. -/
def Obligations.SampleWords : Prop :=
  decode ⟨0b00000000000000000000000000000000, 1, 2⟩ = .ok .nop ∧
  decode ⟨0b00000000000000000000000100000001, 1, 2⟩ = .ok (.load .wide 1 2) ∧
  decode ⟨0b00000000000000000000100000000111, 1, 2⟩ = .ok (.seedAbsorb 3 1) ∧
  decode ⟨0b00000000000000000000001100001000, 1, 2⟩ = .ok (.seedFinal .wide (some 2)) ∧
  decode ⟨0b00000000000000000000000000000101, 1, 2⟩ = .ok (.jump 1) ∧
  decode ⟨0b00000000000000000000000000001001, 1, 2⟩ = .ok .clrst ∧
  decode ⟨0b00000000000000000000000100000010, 1, 2⟩ = .error (.reservedBits 2 0x100) ∧
  decode ⟨0b00000000000000000000000000001010, 1, 2⟩ = .error (.reservedOpcode 10)

/-! ## The commands -/

/-- R200. -/
def Obligations.NopCommand : Prop :=
  (∀ s : State, exec .nop s = .next s) ∧
  (∀ a b : Word128, decode ⟨0x00000000, a, b⟩ = .ok .nop) ∧
  ∀ (w : Word32) (a b : Word128) (s : State), w.extractLsb' 0 8 = 0x00 → w ≠ 0x00000000 →
    perform ⟨w, a, b⟩ s = .next { s with status := { s.status with ill := true } }

/-- R201. -/
def Obligations.ClrstCommand : Prop :=
  (∀ s : State, exec .clrst s = .next { s with status := ⟨false, false⟩ }) ∧
  (∀ s : State, ∃ t, exec .clrst s = .next t ∧ t.ports.errO = 0) ∧
  (∀ s : State, NoRejection s → exec .clrst s = .next s) ∧
  (∀ a b : Word128, decode ⟨0x00000009, a, b⟩ = .ok .clrst) ∧
  ∀ (w : Word32) (a b : Word128) (s : State), w.extractLsb' 0 8 = 0x09 → w ≠ 0x00000009 →
    perform ⟨w, a, b⟩ s = .next { s with status := { s.status with ill := true } }

/-- R100. -/
def Obligations.LoadCommand : Prop :=
  (∀ (v : Variant) (c sel : Word128) (s : State), exec (.load v c sel) s = .next { s with
    counter := c
    selector := match v with
      | .narrow => (sel.extractLsb' 0 64).setWidth 128
      | .wide => sel
    variant := v
    stateValid := true }) ∧
  (∀ (w : Word32) (a b : Word128), w &&& 0xFFFFFEFF = 0x00000001 →
    decode ⟨w, a, b⟩ = .ok (.load (if w.getLsbD 8 then .wide else .narrow) a b)) ∧
  ∀ (w : Word32) (a b : Word128) (s : State), w.extractLsb' 0 8 = 0x01 → w &&& 0xFFFFFEFF ≠ 0x00000001 →
    perform ⟨w, a, b⟩ s = .next { s with status := { s.status with ill := true } }

/-- R124; the increments of the corner cases are those of the reference P_INC (R120). -/
def Obligations.StepCommand : Prop :=
  (∀ s : State, s.stateValid = true → exec .step s = .next { s with
    counter := BitVec.ofNat 128
      ((2 ^ 64 * config.multX.toNat + config.multLo.toNat) * s.counter.toNat +
        (config.inc s.variant s.selector).toNat) }) ∧
  (∀ s : State, s.stateValid = false → exec .step s = .next { s with status := { s.status with nost := true } }) ∧
  (∀ a b : Word128, decode ⟨0x00000002, a, b⟩ = .ok .step) ∧
  (∀ (w : Word32) (a b : Word128) (s : State), w.extractLsb' 0 8 = 0x02 → w ≠ 0x00000002 →
    perform ⟨w, a, b⟩ s = .next { s with status := { s.status with ill := true } }) ∧
  (∀ s : State, s.stateValid = true → s.counter = 0 →
    exec .step s = .next { s with counter := config.inc s.variant s.selector }) ∧
  Config.reference.inc .narrow (BitVec.ofNat 128 (2 ^ 64 - 1)) = BitVec.ofNat 128 (2 ^ 65 - 1) ∧
  Config.reference.inc .wide (BitVec.ofNat 128 (2 ^ 128 - 1)) = BitVec.ofNat 128 (2 ^ 128 - 1)

/-- R125 and R126, with `config` the configuration of the block. The corner case the rule marks as derived is
`FoldedSelectorBits`, its example is in `WorkedExamples`. -/
def Obligations.DrawCommand : Prop :=
  (∀ s : State, s.stateValid = true →
    let c1 := BitVec.ofNat 128
      ((2 ^ 64 * config.multX.toNat + config.multLo.toNat) * s.counter.toNat +
        (config.inc s.variant s.selector).toNat)
    let hash := fun c => match s.variant with
      | .narrow => config.hashNarrow c
      | .wide => config.hashWide c (s.selector.extractLsb' 64 64)
    let tap := match s.variant with
      | .narrow => config.tapNarrow
      | .wide => config.tapWide
    exec .draw s = .next { s with
      counter := c1
      out := match tap with
        | .post => hash c1
        | .pre => hash s.counter }) ∧
  (∀ s : State, s.stateValid = false → exec .draw s = .next { s with status := { s.status with nost := true } }) ∧
  (∀ a b : Word128, decode ⟨0x00000003, a, b⟩ = .ok .draw) ∧
  (∀ (w : Word32) (a b : Word128) (s : State), w.extractLsb' 0 8 = 0x03 → w ≠ 0x00000003 →
    perform ⟨w, a, b⟩ s = .next { s with status := { s.status with ill := true } }) ∧
  (∀ s : State, s.stateValid = true →
    ∃ t u, exec .draw s = .next t ∧ exec .step s = .next u ∧ t.counter = u.counter) ∧
  (∀ (s : State) (e : Word128), s.stateValid = true →
    ∃ t u, execAll (List.replicate e.toNat .draw) s = .next t ∧ exec (.jump e) s = .next u ∧
      t.counter = u.counter) ∧
  (∀ (s : State) (h : Word64), s.stateValid = true → exec .draw { s with out := h } = exec .draw s) ∧
  Config.reference.tapNarrow = .post ∧ Config.reference.tapWide = .post

/-- R145, its corner cases about the tap for every configuration. The corner case the rule marks as derived is
`FoldedSelectorBits`, its example is in `WorkedExamples`. -/
def Obligations.MixCommand : Prop :=
  (∀ s : State, s.stateValid = true → exec .mix s = .next { s with
    out := match s.variant with
      | .narrow => config.hashNarrow s.counter
      | .wide => config.hashWide s.counter (s.selector.extractLsb' 64 64) }) ∧
  (∀ s : State, s.stateValid = false → exec .mix s = .next { s with status := { s.status with nost := true } }) ∧
  (∀ a b : Word128, decode ⟨0x00000004, a, b⟩ = .ok .mix) ∧
  Pseudo.peek.expand = some [.mix] ∧
  (∀ (w : Word32) (a b : Word128) (s : State), w.extractLsb' 0 8 = 0x04 → w ≠ 0x00000004 →
    perform ⟨w, a, b⟩ s = .next { s with status := { s.status with ill := true } }) ∧
  (∀ s : State, s.stateValid = true → execAll [.mix, .mix] s = exec .mix s) ∧
  (∀ (k : Config) (s : State), s.tap k = .post → ((s.drawn k).mixed k).out = (s.drawn k).out) ∧
  ∀ (k : Config) (s : State), s.tap k = .pre → ((s.mixed k).drawn k).out = (s.mixed k).out

/-- R164. Its first clause gives the map applied as the e-fold composition of S = (M, INC) with itself, the value R163
computes; `PowerIsIteratedComposition` is about how. -/
def Obligations.JumpCommand : Prop :=
  (∀ (e : Word128) (s : State), s.stateValid = true →
    let S : AffineMap :=
      ⟨BitVec.ofNat 128 (2 ^ 64 * config.multX.toNat + config.multLo.toNat), config.inc s.variant s.selector⟩
    let P := (S.compose)^[e.toNat] ⟨1, 0⟩
    exec (.jump e) s = .next { s with counter := P.mul * s.counter + P.add }) ∧
  (∀ (e : Word128) (s : State), s.stateValid = false →
    exec (.jump e) s = .next { s with status := { s.status with nost := true } }) ∧
  (∀ a b : Word128, decode ⟨0x00000005, a, b⟩ = .ok (.jump a)) ∧
  (∀ d : Int, (Pseudo.reposition d).expand = some [.jump (asmOperand d)]) ∧
  (∀ n : Nat, n ≤ 2 ^ 127 → (Pseudo.back n).expand = some [.jump (asmOperand (-(n : Int)))]) ∧
  (∀ (w : Word32) (a b : Word128) (s : State), w.extractLsb' 0 8 = 0x05 → w ≠ 0x00000005 →
    perform ⟨w, a, b⟩ s = .next { s with status := { s.status with ill := true } }) ∧
  (∀ s : State, s.stateValid = true → exec (.jump 0) s = .next s) ∧
  (∀ s : State, s.stateValid = true → exec (.jump 1) s = exec .step s) ∧
  (∀ s : State, s.stateValid = true →
    execAll [.step, .jump (BitVec.ofInt 128 (-1))] s = .next s ∧
    execAll [.jump (BitVec.ofInt 128 (-1)), .step] s = .next s) ∧
  BitVec.ofInt 128 (-(2 ^ 127)) = BitVec.ofInt 128 (2 ^ 127)

/-- R183. -/
def Obligations.SeedInitCommand : Prop :=
  (∀ s : State, exec .seedInit s = .next { s with sa := config.seedIvA, sb := config.seedIvB, sl := 0 }) ∧
  (∀ a b : Word128, decode ⟨0x00000006, a, b⟩ = .ok .seedInit) ∧
  (∀ (w : Word32) (a b : Word128) (s : State), w.extractLsb' 0 8 = 0x06 → w ≠ 0x00000006 →
    perform ⟨w, a, b⟩ s = .next { s with status := { s.status with ill := true } }) ∧
  (∀ s : State, execAll [.seedInit, .seedInit] s = exec .seedInit s) ∧
  (∀ (n : Nat) (x : Word128) (s : State), execAll [.seedAbsorb n x, .seedInit] s = exec .seedInit s) ∧
  exec .seedInit State.reset = .next State.reset ∧
  ∀ (v : Variant) (sel : Option Word128) (s : State),
    execAll [.seedFinal v sel, .seedInit] s = exec (.seedFinal v sel) s

/-- R184. -/
def Obligations.SeedAbsorbCommand : Prop :=
  (∀ (nb : BitVec 3) (x : Word128) (s : State),
    let n := nb.toNat + 1
    let w := BitVec.ofNat 64 (x.toNat % 2 ^ (8 * n))
    let sa := fmix64 (s.sa ^^^ w)
    exec (.seedAbsorb n x) s = .next { s with
      sa := sa
      sb := fmix64 (s.sb ^^^ sa)
      sl := BitVec.ofNat 64 (s.sl.toNat + n) }) ∧
  (∀ (w : Word32) (a b : Word128), w &&& 0xFFFFE3FF = 0x00000007 →
    decode ⟨w, a, b⟩ = .ok (.seedAbsorb ((w.extractLsb' 10 3).toNat + 1) a)) ∧
  (∀ (w : Word32) (a b : Word128) (s : State), w.extractLsb' 0 8 = 0x07 → w &&& 0xFFFFE3FF ≠ 0x00000007 →
    perform ⟨w, a, b⟩ s = .next { s with status := { s.status with ill := true } }) ∧
  (∀ (nb mb : BitVec 3) (s : State), nb ≠ mb → ∃ t u,
    exec (.seedAbsorb (nb.toNat + 1) 0) s = .next t ∧ exec (.seedAbsorb (mb.toNat + 1) 0) s = .next u ∧
    t.sl ≠ u.sl ∧ { t with sl := u.sl } = u) ∧
  ∀ (nb : BitVec 3) (x y : Word128) (s : State),
    x.toNat % 2 ^ (8 * (nb.toNat + 1)) = y.toNat % 2 ^ (8 * (nb.toNat + 1)) →
    exec (.seedAbsorb (nb.toNat + 1) x) s = exec (.seedAbsorb (nb.toNat + 1) y) s

/-- R185 and R188. -/
def Obligations.SeedFinalCommand : Prop :=
  (∀ (v : Variant) (sel : Option Word128) (s : State),
    let a := fmix64 (s.sa ^^^ s.sl)
    let b := fmix64 (s.sb ^^^ a)
    let o := fun k => fmix64 (fmix64 (a ^^^ k) ^^^ b)
    exec (.seedFinal v sel) s = .next { s with
      counter := o config.seedK1 ++ o config.seedK0
      selector := match sel, v with
        | some opb, .narrow => (opb.extractLsb' 0 64).setWidth 128
        | some opb, .wide => opb
        | none, .narrow => (o config.seedK2).setWidth 128
        | none, .wide => o config.seedK3 ++ o config.seedK2
      variant := v
      stateValid := true
      sa := config.seedIvA
      sb := config.seedIvB
      sl := 0 }) ∧
  (∀ (w : Word32) (a b : Word128), w &&& 0xFFFFFCFF = 0x00000008 →
    decode ⟨w, a, b⟩ = .ok (.seedFinal (if w.getLsbD 8 then .wide else .narrow)
      (if w.getLsbD 9 then some b else none))) ∧
  (∀ (w : Word32) (a b : Word128) (s : State), w.extractLsb' 0 8 = 0x08 → w &&& 0xFFFFFCFF ≠ 0x00000008 →
    perform ⟨w, a, b⟩ s = .next { s with status := { s.status with ill := true } }) ∧
  (∀ (v v' : Variant) (sel sel' : Option Word128) (s : State), ∃ t u,
    exec (.seedFinal v sel) s = .next t ∧ exec (.seedFinal v' sel') s = .next u ∧ t.counter = u.counter) ∧
  (∀ s : State, ∃ t u,
    exec (.seedFinal .narrow none) s = .next t ∧ exec (.seedFinal .wide none) s = .next u ∧
    t.counter = u.counter ∧ t.selector.extractLsb' 0 64 = u.selector.extractLsb' 0 64) ∧
  ∀ (v v' : Variant) (sel sel' : Option Word128) (s : State), ∃ t u r,
    execAll [.seedInit, .seedFinal v sel] s = .next t ∧
    execAll [.seedFinal v' sel', .seedFinal v sel] s = .next u ∧
    exec (.seedFinal v sel) State.reset = .next r ∧
    t.counter = r.counter ∧ t.selector = r.selector ∧ u.counter = r.counter ∧ u.selector = r.selector

/-! ## Reset, ports and status -/

/-- R240: every element after reset, whatever command was in progress, with every generator command then rejected and
STATUS_O and CMD_READY as the host reads them. -/
def Obligations.ResetState : Prop :=
  (∀ (s : State) (p : Option Command),
    let t := s.assertReset p
    t.counter = 0 ∧ t.selector = 0 ∧ t.variant = .narrow ∧ t.stateValid = false ∧ t.out = 0 ∧
    t.status = ⟨false, false⟩ ∧ t.ports.statusO = 0 ∧ t.sa = config.seedIvA ∧ t.sb = config.seedIvB ∧ t.sl = 0 ∧
    t.ports.cmdReady = 1 ∧ t = s.assertReset none) ∧
  ∀ (i : Instr) (c sel : Word128), ReadsGenerator i →
    exec i { State.reset with counter := c, selector := sel } =
      .next { State.reset with counter := c, selector := sel, status := ⟨false, true⟩ }

/-- The output ports (10_state.md sections 3 and 6). That CMD_READY reads 1 in every state is the model's (log entry 5):
its states stand between commands, and during a command the hardware shows 0. -/
def Obligations.PortsShowState : Prop :=
  ∀ s : State,
    s.ports.counterO = s.counter ∧ s.ports.selectorO = s.selector ∧
    s.ports.variantO = (match s.variant with
      | .narrow => 0
      | .wide => 1) ∧
    s.ports.stateValidO = (if s.stateValid then 1 else 0) ∧ s.ports.outO = s.out ∧
    s.ports.statusO.getLsbD 0 = s.status.ill ∧ s.ports.statusO.getLsbD 1 = s.status.nost ∧
    s.ports.errO = s.ports.statusO.extractLsb' 0 1 ||| s.ports.statusO.extractLsb' 1 1 ∧ s.ports.cmdReady = 1

/-- R27: the 32-bit word STATUS, its bits, what sets and what clears them. -/
def Obligations.StatusWord : Prop :=
  (∀ s : State, s.ports.statusO.extractLsb' 2 30 = 0) ∧
  State.reset.ports.statusO = 0 ∧
  (∀ (c : Command) (s : State), IllegalWord c.cmd → ∃ t, perform c s = .next t ∧
    t.ports.statusO = s.ports.statusO ||| 1) ∧
  (∀ (i : Instr) (s : State), ReadsGenerator i → s.stateValid = false → ∃ t, exec i s = .next t ∧
    t.ports.statusO = s.ports.statusO ||| 2) ∧
  (∀ (c : Command) (s : State), decode c ≠ .ok .clrst → ∃ t, perform c s = .next t ∧
    t.ports.statusO &&& s.ports.statusO = s.ports.statusO) ∧
  (∀ s : State, ∃ t, exec .clrst s = .next t ∧ t.ports.statusO = 0) ∧
  ∀ (s : State) (p : Option Command), (s.assertReset p).ports.statusO = 0

/-- R221: a rejection sets its bit and nothing else; the block accepts and performs the next command as it would have
without it, the status bits apart. -/
def Obligations.RejectionTouchesOneStatusBit : Prop :=
  (∀ (c : Command) (s : State), IllegalWord c.cmd →
    perform c s = .next { s with status := { s.status with ill := true } }) ∧
  (∀ (i : Instr) (s : State), ReadsGenerator i → s.stateValid = false →
    exec i s = .next { s with status := { s.status with nost := true } }) ∧
  ∀ (c : Command) (s : State) (st : Status), ∃ t u,
    perform c s = .next t ∧ perform c { s with status := st } = .next u ∧ { u with status := t.status } = t

/-- R222: what cause ILL is, that every opcode can raise it, and that nothing of the word is recorded. -/
def Obligations.IllCause : Prop :=
  Cause.ill.code = 0 ∧
  (∀ (c : Command) (s t : State), s.status.ill = false → perform c s = .next t →
    (t.status.ill = true ↔ IllegalWord c.cmd)) ∧
  (∀ op : BitVec 8, ∃ w : Word32, w.extractLsb' 0 8 = op ∧ IllegalWord w) ∧
  ∀ (c d : Command) (s : State), IllegalWord c.cmd → IllegalWord d.cmd → perform c s = perform d s

/-- R223: exactly which commands raise NOST, and that nothing of the command is recorded. -/
def Obligations.NostCause : Prop :=
  Cause.nost.code = 1 ∧
  (∀ (c : Command) (s t : State), s.status.nost = false → perform c s = .next t →
    (t.status.nost = true ↔ s.stateValid = false ∧ ∃ i, decode c = .ok i ∧ ReadsGenerator i)) ∧
  (∀ (i : Instr) (s : State), ¬ ReadsGenerator i → i ≠ .clrst → ∃ t, exec i s = .next t ∧ t.status = s.status) ∧
  ∀ (i j : Instr) (s : State), ReadsGenerator i → ReadsGenerator j → s.stateValid = false → exec i s = exec j s

/-- R224: the order of the checks, at most one cause a command, and the rule's example. -/
def Obligations.CheckOrder : Prop :=
  (∀ (c : Command) (s : State), IllegalWord c.cmd →
    perform c s = .next { s with status := { s.status with ill := true } }) ∧
  (∀ (c : Command) (i : Instr) (s : State), decode c = .ok i → ReadsGenerator i → s.stateValid = false →
    perform c s = .next { s with status := { s.status with nost := true } }) ∧
  (∀ (c : Command) (i : Instr) (s : State), decode c = .ok i → (ReadsGenerator i → s.stateValid = true) →
    perform c s = exec i s ∧ ∃ t, exec i s = .next t ∧ (i ≠ .clrst → t.status = s.status)) ∧
  (∀ (c : Command) (s t : State), s.status = ⟨false, false⟩ → perform c s = .next t →
    t.status ≠ ⟨true, true⟩) ∧
  ∀ a b : Word128, perform ⟨0x00000102, a, b⟩ State.reset = .next { State.reset with status := ⟨true, false⟩ }

/-- R227: STATUS bits accumulate; only CLRST and reset clear them; a rejection blocks nothing. -/
def Obligations.StickyStatus : Prop :=
  (∀ (c : Command) (s t : State), decode c ≠ .ok .clrst → perform c s = .next t →
    (s.status.ill = true → t.status.ill = true) ∧ (s.status.nost = true → t.status.nost = true)) ∧
  (∀ s : State, exec .clrst s = .next { s with status := ⟨false, false⟩ }) ∧
  (∀ (s : State) (p : Option Command), (s.assertReset p).status = ⟨false, false⟩) ∧
  (∀ (c : Command) (s : State), IllegalWord c.cmd → s.status.ill = true → perform c s = .next s) ∧
  (∀ (i : Instr) (s : State), ReadsGenerator i → s.stateValid = false → s.status.nost = true →
    exec i s = .next s) ∧
  ∀ (c : Command) (s : State) (st : Status), ∃ t u,
    perform c s = .next t ∧ perform c { s with status := st } = .next u ∧ { u with status := t.status } = t

/-- R220 and R37: with a constructed state no operand, counter or selector makes a command report anything, and the
commands that read no generator state never do. -/
def Obligations.EveryOperandAccepted : Prop :=
  (∀ (i : Instr) (s : State), (ReadsGenerator i → s.stateValid = true) → i ≠ .clrst →
    ∃ t, exec i s = .next t ∧ t.status = s.status) ∧
  ∀ (v : Variant) (c sel : Word128) (i : Instr) (s : State), i ≠ .clrst → ∃ t u,
    exec (.load v c sel) s = .next t ∧ exec i t = .next u ∧ u.status = s.status

/-! ## Who writes what -/

/-- The table of R20 for every register over all instructions: its column 'written by' (with it R38), its reset values,
and its column 'read by': what does not read a register does the same to all the others whatever it holds. -/
def Obligations.OnlyWritersChangeRegisters : Prop :=
  (∀ (i : Instr) (s t : State), exec i s = .next t →
    (t.counter ≠ s.counter → i = .step ∨ i = .draw ∨ (∃ e, i = .jump e) ∨ Constructs i) ∧
    (t.selector ≠ s.selector → Constructs i) ∧
    (t.variant ≠ s.variant → Constructs i) ∧
    (t.stateValid ≠ s.stateValid → Constructs i) ∧
    (t.out ≠ s.out → i = .draw ∨ i = .mix) ∧
    (t.status ≠ s.status → i = .clrst ∨ (ReadsGenerator i ∧ s.stateValid = false)) ∧
    (t.sa ≠ s.sa ∨ t.sb ≠ s.sb ∨ t.sl ≠ s.sl → IsSeeding i)) ∧
  (State.reset.counter = 0 ∧ State.reset.selector = 0 ∧ State.reset.variant = .narrow ∧
    State.reset.stateValid = false ∧ State.reset.out = 0 ∧ State.reset.status = ⟨false, false⟩ ∧
    State.reset.sa = config.seedIvA ∧ State.reset.sb = config.seedIvB ∧ State.reset.sl = 0) ∧
  (∀ (i : Instr) (s : State) (c sel : Word128) (v : Variant) (b : Bool), ¬ ReadsGenerator i → ∃ t u,
    exec i s = .next t ∧ exec i { s with counter := c, selector := sel, variant := v, stateValid := b } = .next u ∧
    { u with counter := t.counter, selector := t.selector, variant := t.variant, stateValid := t.stateValid } = t) ∧
  (∀ (i : Instr) (s : State) (h : Word64) (st : Status), ∃ t u,
    exec i s = .next t ∧ exec i { s with out := h, status := st } = .next u ∧
    { u with out := t.out, status := t.status } = t) ∧
  (∀ (i : Instr) (s : State) (sa sb sl : Word64), (∀ n x, i ≠ .seedAbsorb n x) → (∀ v sel, i ≠ .seedFinal v sel) →
    ∃ t u, exec i s = .next t ∧ exec i { s with sa := sa, sb := sb, sl := sl } = .next u ∧
      { u with sa := t.sa, sb := t.sb, sl := t.sl } = t) ∧
  ∀ (s : State) (sa sb sl : Word64), { s with sa := sa, sb := sb, sl := sl }.ports = s.ports

/-- R25. -/
def Obligations.ConstructionFlag : Prop :=
  (∀ (s : State) (p : Option Command), (s.assertReset p).stateValid = false) ∧
  (∀ (i : Instr) (s : State), Constructs i → ∃ t, exec i s = .next t ∧ t.stateValid = true) ∧
  (∀ (i : Instr) (s : State), ¬ Constructs i → ∃ t, exec i s = .next t ∧ t.stateValid = s.stateValid) ∧
  ∀ (i : Instr) (s : State), ReadsGenerator i → s.stateValid = false →
    exec i s = .next { s with status := { s.status with nost := true } }

/-- R26. -/
def Obligations.OutHoldsLastWord : Prop :=
  (∀ (i : Instr) (s t : State), exec i s = .next t → i ≠ .draw → i ≠ .mix → t.out = s.out) ∧
  State.reset.out = 0 ∧
  (∀ s : State, s.ports.outO = s.out) ∧
  ∀ (is : List Instr) (t : State), (∀ i ∈ is, i ≠ .draw ∧ i ≠ .mix) → execAll is State.reset = .next t →
    t.ports.outO = 0

/-- R182: the absorber is read and written by the seeding commands alone, and SEED_INIT and SEED_ABSORB may be
interleaved with any other command without either noticing. -/
def Obligations.AbsorberIsolated : Prop :=
  (∀ (i : Instr) (s t : State), ¬ IsSeeding i → exec i s = .next t → t.sa = s.sa ∧ t.sb = s.sb ∧ t.sl = s.sl) ∧
  (∀ (i : Instr) (s t : State) (sa sb sl : Word64), ¬ IsSeeding i → exec i s = .next t →
    exec i { s with sa := sa, sb := sb, sl := sl } = .next { t with sa := sa, sb := sb, sl := sl }) ∧
  (State.reset.sa = config.seedIvA ∧ State.reset.sb = config.seedIvB ∧ State.reset.sl = 0) ∧
  (∀ (i : Instr) (s t : State), IsSeeding i → ¬ Constructs i → exec i s = .next t →
    t = { s with sa := t.sa, sb := t.sb, sl := t.sl }) ∧
  ∀ (i j : Instr) (s : State), IsSeeding i → ¬ Constructs i → ¬ IsSeeding j →
    execAll [i, j] s = execAll [j, i] s

/-! ## Increment, step function, full period -/

/-- R120: the reference increment, odd, injective when narrow, blind to bit 127 when wide, where the hash still tells the
two selectors apart on every counter. -/
def Obligations.ReferenceIncrement : Prop :=
  (∀ s : Word128, (Config.reference.inc .narrow s).toNat = 2 * (s.toNat % 2 ^ 64) + 1) ∧
  (∀ s : Word128, (Config.reference.inc .wide s).toNat = (2 * s.toNat + 1) % 2 ^ 128) ∧
  (∀ v s, (Config.reference.inc v s).toNat % 2 = 1) ∧
  (∀ s t : Word128, Config.reference.inc .narrow s = Config.reference.inc .narrow t →
    s.extractLsb' 0 64 = t.extractLsb' 0 64) ∧
  ∀ s : Word128,
    Config.reference.inc .wide (s ^^^ BitVec.ofNat 128 (2 ^ 127)) = Config.reference.inc .wide s ∧
    ∀ c : Word128, Config.reference.hashWide c ((s ^^^ BitVec.ofNat 128 (2 ^ 127)).extractLsb' 64 64) ≠
      Config.reference.hashWide c (s.extractLsb' 64 64)

/-- R121 and R161, for every configuration: the step function, and the single-step map S that is applied by it. -/
def Obligations.SingleStepMap : Prop :=
  ∀ (k : Config) (inc c : Word128),
    (stepCounter k inc c).toNat =
      ((2 ^ 64 * k.multX.toNat + k.multLo.toNat) * c.toNat + inc.toNat) % 2 ^ 128 ∧
    (stepMap k inc).mul.toNat = 2 ^ 64 * k.multX.toNat + k.multLo.toNat ∧
    (stepMap k inc).add = inc ∧
    (stepMap k inc).apply c = stepCounter k inc c

/-- The datapath computes the step function, for every configuration and every counter (R122's derived equality; with
the cross term of C1). -/
def Obligations.DatapathComputesStep : Prop :=
  ∀ (k : Config) (inc c : Word128), stepDatapath k inc c = stepCounter k inc c

/-- R123: the widening multiply is exact, and its composition from four partial products is identical and exact in 128
bits. -/
def Obligations.WideningMultiply : Prop :=
  ∀ a b : Word64,
    (wmul64 a b).toNat = a.toNat * b.toNat ∧
    wmul64Parts a b = wmul64 a b ∧
    (wmul64Parts a b).toNat =
      a.toNat % 2 ^ 32 * (b.toNat % 2 ^ 32) + a.toNat % 2 ^ 32 * (b.toNat / 2 ^ 32) * 2 ^ 32 +
        a.toNat / 2 ^ 32 * (b.toNat % 2 ^ 32) * 2 ^ 32 + a.toNat / 2 ^ 32 * (b.toNat / 2 ^ 32) * 2 ^ 64

/-- The step is a permutation of the 2^128 counters with one cycle, for every configuration and increment that meet the
constraints of R6 and R7 (R127). -/
def Obligations.FullPeriod : Prop :=
  ∀ (k : Config) (inc : Word128), k.MultiplierOk → inc.getLsbD 0 = true →
    Function.Bijective (stepCounter k inc) ∧
    (∀ (c : Word128) (n : Nat), (stepCounter k inc)^[n] c = c ↔ 2 ^ 128 ∣ n) ∧
    ∀ c d : Word128, ∃ n < 2 ^ 128, (stepCounter k inc)^[n] c = d

/-! ## Jump -/

/-- Composition of affine maps is composition of their applications, associative, with identity (1, 0) (R160). -/
def Obligations.AffineMonoid : Prop :=
  (∀ (g f : AffineMap) (x : Word128), (g.compose f).apply x = g.apply (f.apply x)) ∧
  (∀ h g f : AffineMap, (h.compose g).compose f = h.compose (g.compose f)) ∧
  (∀ f : AffineMap, AffineMap.one.compose f = f ∧ f.compose AffineMap.one = f) ∧
  ∀ x : Word128, AffineMap.one.apply x = x

/-- R163: 128 rounds of repeated squaring give the e-fold composition, for every map; scanning most significant bit
first, or stopping above the highest set bit, gives the same. -/
def Obligations.PowerIsIteratedComposition : Prop :=
  ∀ (S : AffineMap) (e : Word128),
    power S e = (powerRounds S e 128).1 ∧
    power S e = (S.compose)^[e.toNat] ⟨1, 0⟩ ∧
    powerMsbFirst S e = power S e ∧
    ∀ n ≤ 128, e.toNat < 2 ^ n → (powerRounds S e n).1 = power S e

/-- R162: OPA read as a signed count, used only as the unsigned exponent, of either sign, so that JUMP makes that many
steps; a negative count undoes that many; no count is invalid; 2^128 is presented as 0. -/
def Obligations.SignedCount : Prop :=
  (∀ delta : Int, -(2 ^ 127) ≤ delta → delta < 2 ^ 127 →
    (asmOperand delta).toInt = delta ∧ ((asmOperand delta).toNat : Int) = delta % 2 ^ 128 ∧
    (delta < 0 → ((asmOperand delta).toNat : Int) = 2 ^ 128 - delta.natAbs)) ∧
  (∀ (opa : Word128) (s : State), s.stateValid = true →
    exec (.jump opa) s = execAll (List.replicate opa.toNat .step) s) ∧
  (∀ (delta : Int) (s : State), s.stateValid = true →
    exec (.jump (asmOperand delta)) s = execAll (List.replicate (delta % 2 ^ 128).toNat .step) s) ∧
  (∀ opa : Word128, -(2 ^ 127) ≤ opa.toInt ∧ opa.toInt < 2 ^ 127 ∧ asmOperand opa.toInt = opa) ∧
  (∀ (n : Nat) (s : State), n ≤ 2 ^ 127 → s.stateValid = true →
    execAll (List.replicate n .step ++ [.jump (asmOperand (-(n : Int)))]) s = .next s) ∧
  (∀ (opa : Word128) (s : State), s.stateValid = true → ∃ t, exec (.jump opa) s = .next t ∧ t.status = s.status) ∧
  asmOperand (2 ^ 128) = 0

/-- R165: JUMP e is e successive STEPs, and leaves the COUNTER of e DRAWs. -/
def Obligations.JumpEqualsIteratedSteps : Prop :=
  ∀ (s : State) (e : Word128), s.stateValid = true →
    execAll (List.replicate e.toNat .step) s = exec (.jump e) s ∧
    ∃ t u, execAll (List.replicate e.toNat .draw) s = .next t ∧ exec (.jump e) s = .next u ∧
      { t with out := u.out } = u

/-- The laws of the jump: homomorphism, inverse, period (R166). -/
def Obligations.JumpLaws : Prop :=
  ∀ s : State, s.stateValid = true →
    (∀ d1 d2 : Word128, execAll [.jump d1, .jump d2] s = exec (.jump (d1 + d2)) s) ∧
    (∀ d : Word128, execAll [.jump d, .jump (-d)] s = .next s) ∧
    (∀ d1 d2 : Word128, d1.toNat + d2.toNat = 2 ^ 128 → execAll [.jump d1, .jump d2] s = .next s) ∧
    ∀ (n : Nat) (c : Word128), 2 ^ 128 ∣ n →
      ((stepMap config (s.increment config)).compose^[n] AffineMap.one).apply c = c

/-! ## Output hash -/

/-- fmix64 is the formula of R144, its products mod 2^64, on every word; it is a bijection on 64-bit words and fixes 0. -/
def Obligations.Fmix64Bijective : Prop :=
  (∀ z : Word64,
    let z1 := z ^^^ (z >>> 30)
    let z2 := BitVec.ofNat 64 (0xbf58476d1ce4e5b9 * z1.toNat)
    let z3 := z2 ^^^ (z2 >>> 27)
    let z4 := BitVec.ofNat 64 (0x94d049bb133111eb * z3.toNat)
    fmix64 z = z4 ^^^ (z4 >>> 31)) ∧
  Function.Bijective fmix64 ∧ fmix64 0 = 0

/-- R10, R142, R143, R181: the reference configuration, every parameter of it; the wide hash with t = 0 is the narrow one;
the seeder constants K1, K2, K3 are the multiples of K0 mod 2^64. -/
def Obligations.ReferenceConfiguration : Prop :=
  Config.reference.multLo = 0xda942042e4dd58b5 ∧ Config.reference.multX = 1 ∧
  Config.reference.tapNarrow = .post ∧ Config.reference.tapWide = .post ∧
  (∀ s : Word128, Config.reference.inc .narrow s = ((s.extractLsb' 0 64).setWidth 128 <<< 1) ||| 1 ∧
    Config.reference.inc .wide s = (s <<< 1) ||| 1) ∧
  (∀ (c : Word128) (t : Word64),
    Config.reference.hashNarrow c = fmix64 (c.extractLsb' 64 64 ^^^ fmix64 (c.extractLsb' 0 64)) ∧
    Config.reference.hashWide c t = fmix64 (c.extractLsb' 64 64 ^^^ fmix64 (c.extractLsb' 0 64 ^^^ t)) ∧
    Config.reference.hashWide c 0 = Config.reference.hashNarrow c) ∧
  Config.reference.seedIvA = 0x243f6a8885a308d3 ∧ Config.reference.seedIvB = 0x13198a2e03707344 ∧
  Config.reference.seedK0 = 0x9e3779b97f4a7c15 ∧ Config.reference.seedK1 = 0x3c6ef372fe94f82a ∧
  Config.reference.seedK2 = 0xdaa66d2c7ddf743f ∧ Config.reference.seedK3 = 0x78dde6e5fd29f054 ∧
  Config.reference.seedK1 = 2 * Config.reference.seedK0 ∧ Config.reference.seedK2 = 3 * Config.reference.seedK0 ∧
  Config.reference.seedK3 = 4 * Config.reference.seedK0

/-- The reference configuration meets every constraint of the spec; its hashes are equidistributed (R6, R7, R140 (a),
R146). -/
def Obligations.ReferenceContractHolds : Prop := Config.reference.Contract

/-- What folding SELECTOR[127:64] into the wide hash does under the reference configuration: with it zero, a wide state
draws the narrow state's words; a counter whose low half equals it and whose high half is 0 hashes to 0; and the
increment together with it tells all wide selectors apart (derived cases of R125 and R145, and C4). -/
def Obligations.FoldedSelectorBits : Prop :=
  (∀ s : State, s.stateValid = true → s.variant = .wide → s.selector.extractLsb' 64 64 = 0 → ∃ t u,
    exec .draw s = .next t ∧ exec .draw { s with variant := .narrow } = .next u ∧
    t.out = u.out ∧ t.counter = u.counter) ∧
  (∀ s : State, s.stateValid = true → s.counter.extractLsb' 64 64 = 0 →
    s.counter.extractLsb' 0 64 = (match s.variant with
      | .narrow => 0
      | .wide => s.selector.extractLsb' 64 64) →
    exec .mix s = .next { s with out := 0 }) ∧
  ∀ s t : Word128, Config.reference.inc .wide s = Config.reference.inc .wide t →
    s.extractLsb' 64 64 = t.extractLsb' 64 64 → s = t

/-! ## Seeding and the host's procedures -/

/-- R187: the canonical chunking of a byte string. -/
def Obligations.CanonicalChunking : Prop :=
  ∀ m : List Byte,
    (canonicalChunks m).length = (m.length + 7) / 8 ∧
    (∀ i < (m.length + 7) / 8, ∃ x : Word128,
      (canonicalChunks m)[i]? = some (.seedAbsorb (min 8 (m.length - 8 * i)) x) ∧
      1 ≤ min 8 (m.length - 8 * i) ∧
      (i + 1 < (m.length + 7) / 8 → min 8 (m.length - 8 * i) = 8) ∧
      (i + 1 = (m.length + 7) / 8 → min 8 (m.length - 8 * i) = m.length - 8 * ((m.length + 7) / 8 - 1)) ∧
      ∀ j < min 8 (m.length - 8 * i), m[8 * i + j]? = some (x.extractLsb' (8 * j) 8)) ∧
    (m = [] → canonicalChunks m = [])

/-- The seeding function is SEED_INIT, the canonical SEED_ABSORBs of the material (`CanonicalChunking` says what they
are) and SEED_FINAL; it is total and deterministic: it answers a constructed state with an odd increment, and the
generator state and absorber it leaves do not depend on the state before; OUT and STATUS stay (R186). So do the host's
events, a list of the model's own (log entry 2). CONSTRUCT expands to those commands, its selector as written (R81; one
that does not fit 128 bits is the model's choice, log entry 14). -/
def Obligations.SeedFunctionTotal : Prop :=
  (∀ (m : List Byte) (v : Variant) (sel : Option Word128),
    seedSequence m v sel = .seedInit :: (canonicalChunks m ++ [.seedFinal v sel])) ∧
  (∀ (m : List Byte) (v : Variant) (sel : Option Word128) (s r : State), ∃ t u,
    execAll (.seedInit :: (canonicalChunks m ++ [.seedFinal v sel])) s = .next t ∧
    execAll (.seedInit :: (canonicalChunks m ++ [.seedFinal v sel])) r = .next u ∧
    t.stateValid = true ∧ t.variant = v ∧ (t.increment config).getLsbD 0 = true ∧
    { t with out := u.out, status := u.status, inputs := u.inputs } = u ∧
    t.out = s.out ∧ t.status = s.status ∧ t.inputs = s.inputs) ∧
  ∀ (m : List Byte) (v : Variant) (sel : Option Int),
    (Pseudo.construct v m sel).expand = some (.seedInit :: (canonicalChunks m ++ [.seedFinal v (sel.map asmOperand)]))

/-- The raw-state byte layout (20_memory.md section 2, R54). It is stated of every state; that an instance never
constructed exports its registers in it too is the model's choice (log entry 15). -/
def Obligations.RawStateLayout : Prop :=
  (∀ s : State, s.variant = .narrow → s.exportRaw.length = 24 ∧
    (∀ k < 16, s.exportRaw[k]? = some (s.counter.extractLsb' (8 * k) 8)) ∧
    ∀ k < 8, s.exportRaw[16 + k]? = some (s.selector.extractLsb' (8 * k) 8)) ∧
  ∀ s : State, s.variant = .wide → s.exportRaw.length = 32 ∧
    (∀ k < 16, s.exportRaw[k]? = some (s.counter.extractLsb' (8 * k) 8)) ∧
    ∀ k < 16, s.exportRaw[16 + k]? = some (s.selector.extractLsb' (8 * k) 8)

/-- R63: import of a raw-state byte sequence (24 bytes narrow, 32 wide) issues LOAD with V the variant, OPA the counter
from bytes 0 to 15 and OPB the selector from the others, zero-extended; a wrong length is the adapter's rejection; the
pseudo-instruction IMPORT does the same (R81). Import then export yields the same bytes, export then import the same
generator state; comparing and exporting states never constructed is the model's choice (log entry 15). -/
def Obligations.RawStateRoundTrip : Prop :=
  (∀ (v : Variant) (bytes : List Byte),
    (bytes.length ≠ match v with
      | .narrow => 24
      | .wide => 32) →
    importRaw v bytes = none ∧ (Pseudo.importState v bytes).expand = none) ∧
  (∀ (v : Variant) (bytes : List Byte) (s : State),
    (bytes.length = match v with
      | .narrow => 24
      | .wide => 32) → ∃ c sel t,
    importRaw v bytes = some (.load v c sel) ∧ (Pseudo.importState v bytes).expand = some [.load v c sel] ∧
    (∀ k < 16, bytes[k]? = some (c.extractLsb' (8 * k) 8)) ∧
    (∀ k, 16 + k < bytes.length → bytes[16 + k]? = some (sel.extractLsb' (8 * k) 8)) ∧
    (v = .narrow → sel.extractLsb' 64 64 = 0) ∧
    exec (.load v c sel) s = .next t ∧ t.variant = v ∧ t.stateValid = true ∧ t.exportRaw = bytes) ∧
  ∀ s r : State, NarrowSelectorZero s → ∃ i t,
    importRaw s.variant s.exportRaw = some i ∧ exec i r = .next t ∧ t.sameGenerator s = true

/-- clone(): loading what the read ports of a constructed instance show, into any instance, makes a generator state
equal to the original's and touches nothing else there; there is no clone of an instance never constructed (R101). -/
def Obligations.CloneCopiesState : Prop :=
  (∀ s r : State, s.stateValid = true → NarrowSelectorZero s → ∃ c t,
    s.cloneCommand = some c ∧ perform c r = .next t ∧ t.sameGenerator s = true ∧ t.stateValid = true ∧
    t = { r with counter := s.counter, selector := s.selector, variant := s.variant, stateValid := true }) ∧
  ∀ s : State, s.stateValid = false → s.cloneCommand = none

/-- Equal generator states stay equal, with equal words, under every sequence of STEP, DRAW, MIX and JUMP, whatever the
rest of the two states holds; and states that differ only in VARIANT are not equal (R102; for states never constructed
that is the model's choice, log entry 15). -/
def Obligations.EqualStatesStayEqual : Prop :=
  (∀ (is : List Instr) (s r : State), (∀ i ∈ is, ReadsGenerator i) → s.stateValid = true → r.stateValid = true →
    s.sameGenerator r = true → ∃ t u, execAll is s = .next t ∧ execAll is r = .next u ∧
      t.sameGenerator u = true ∧ (s.out = r.out ∨ .draw ∈ is ∨ .mix ∈ is → t.out = u.out)) ∧
  ∀ s r : State, s.variant ≠ r.variant → s.sameGenerator r = false

/-- LOAD is deterministic: equal V, counter and selector bits leave equal generator states, whatever the states before
(R103). -/
def Obligations.LoadDeterministic : Prop :=
  ∀ (v : Variant) (c b b' : Word128) (s r : State),
    (match v with
      | .narrow => b.extractLsb' 0 64 = b'.extractLsb' 0 64
      | .wide => b = b') → ∃ t u,
    exec (.load v c b) s = .next t ∧ exec (.load v c b') r = .next u ∧
    t.counter = u.counter ∧ t.selector = u.selector ∧ t.variant = u.variant ∧ t.stateValid = u.stateValid

/-- The numeric examples of R100, R124, R125, R145, R164, R184 and R185, under the reference configuration. -/
def Obligations.WorkedExamples : Prop :=
  (∃ t, exec (.load .narrow (BitVec.allOnes 128) (BitVec.allOnes 128)) State.reset = .next t ∧
    t.counter = BitVec.allOnes 128 ∧ t.selector = 0xffffffffffffffff ∧ t.variant = .narrow ∧ t.stateValid = true ∧
    t.out = 0) ∧
  (∃ t, execAll [.load .narrow 1 0, .step] State.reset = .next t ∧
    t.counter = 0x0000000000000001da942042e4dd58b6) ∧
  (∃ t, execAll [.load .narrow 0 0, .draw] State.reset = .next t ∧ t.counter = 1 ∧ t.out = 0x7ab40e090f363a7d) ∧
  (∃ t, execAll [.load .wide 0x0123456789abcdeffedcba9876543210 0xfedcba98765432100123456789abcdef, .mix]
    State.reset = .next t ∧ t.out = 0xb2c058e4ebb5112c) ∧
  (∃ t, execAll [.load .narrow 0x0123456789abcdeffedcba9876543210 5, .jump 1] State.reset = .next t ∧
    t.counter = 0x7377a71763e62c7f8a6c61de128ce55b) ∧
  (∃ t, exec (.seedAbsorb 3 0x636261) State.reset = .next t ∧
    t.sa = 0xd9a133a7c4acfa22 ∧ t.sb = 0x92e984f55a233b9a ∧ t.sl = 3) ∧
  ∃ t, execAll [.seedFinal .narrow (some 0), .draw] State.reset = .next t ∧ t.selector = 0 ∧
    t.out = 0xa1fd1e3785222ca9
end

