-- ==== Sys2Proof/Laws/State.lean ====
section
/-! SUPPORT. One lemma per field per named state update, so that no proof unfolds a record update; and what each
update leaves of the quantities computed from VARIANT and SELECTOR. -/

namespace Sys2Proof.Machine

/-! ### withCounter -/

@[simp] theorem State.withCounter_counter (s : State) (c : Word128) : (s.withCounter c).counter = c := rfl
@[simp] theorem State.withCounter_selector (s : State) (c : Word128) : (s.withCounter c).selector = s.selector := rfl
@[simp] theorem State.withCounter_variant (s : State) (c : Word128) : (s.withCounter c).variant = s.variant := rfl
@[simp] theorem State.withCounter_stateValid (s : State) (c : Word128) : (s.withCounter c).stateValid = s.stateValid := rfl
@[simp] theorem State.withCounter_out (s : State) (c : Word128) : (s.withCounter c).out = s.out := rfl
@[simp] theorem State.withCounter_status (s : State) (c : Word128) : (s.withCounter c).status = s.status := rfl
@[simp] theorem State.withCounter_sa (s : State) (c : Word128) : (s.withCounter c).sa = s.sa := rfl
@[simp] theorem State.withCounter_sb (s : State) (c : Word128) : (s.withCounter c).sb = s.sb := rfl
@[simp] theorem State.withCounter_sl (s : State) (c : Word128) : (s.withCounter c).sl = s.sl := rfl
@[simp] theorem State.withCounter_inputs (s : State) (c : Word128) : (s.withCounter c).inputs = s.inputs := rfl

/-! ### withOut -/

@[simp] theorem State.withOut_counter (s : State) (h : Word64) : (s.withOut h).counter = s.counter := rfl
@[simp] theorem State.withOut_selector (s : State) (h : Word64) : (s.withOut h).selector = s.selector := rfl
@[simp] theorem State.withOut_variant (s : State) (h : Word64) : (s.withOut h).variant = s.variant := rfl
@[simp] theorem State.withOut_stateValid (s : State) (h : Word64) : (s.withOut h).stateValid = s.stateValid := rfl
@[simp] theorem State.withOut_out (s : State) (h : Word64) : (s.withOut h).out = h := rfl
@[simp] theorem State.withOut_status (s : State) (h : Word64) : (s.withOut h).status = s.status := rfl
@[simp] theorem State.withOut_sa (s : State) (h : Word64) : (s.withOut h).sa = s.sa := rfl
@[simp] theorem State.withOut_sb (s : State) (h : Word64) : (s.withOut h).sb = s.sb := rfl
@[simp] theorem State.withOut_sl (s : State) (h : Word64) : (s.withOut h).sl = s.sl := rfl
@[simp] theorem State.withOut_inputs (s : State) (h : Word64) : (s.withOut h).inputs = s.inputs := rfl

/-! ### withAbsorber -/

@[simp] theorem State.withAbsorber_counter (s : State) (a b l : Word64) : (s.withAbsorber a b l).counter = s.counter := rfl
@[simp] theorem State.withAbsorber_selector (s : State) (a b l : Word64) : (s.withAbsorber a b l).selector = s.selector := rfl
@[simp] theorem State.withAbsorber_variant (s : State) (a b l : Word64) : (s.withAbsorber a b l).variant = s.variant := rfl
@[simp] theorem State.withAbsorber_stateValid (s : State) (a b l : Word64) : (s.withAbsorber a b l).stateValid = s.stateValid := rfl
@[simp] theorem State.withAbsorber_out (s : State) (a b l : Word64) : (s.withAbsorber a b l).out = s.out := rfl
@[simp] theorem State.withAbsorber_status (s : State) (a b l : Word64) : (s.withAbsorber a b l).status = s.status := rfl
@[simp] theorem State.withAbsorber_sa (s : State) (a b l : Word64) : (s.withAbsorber a b l).sa = a := rfl
@[simp] theorem State.withAbsorber_sb (s : State) (a b l : Word64) : (s.withAbsorber a b l).sb = b := rfl
@[simp] theorem State.withAbsorber_sl (s : State) (a b l : Word64) : (s.withAbsorber a b l).sl = l := rfl
@[simp] theorem State.withAbsorber_inputs (s : State) (a b l : Word64) : (s.withAbsorber a b l).inputs = s.inputs := rfl

/-! ### withInputs -/

@[simp] theorem State.withInputs_counter (s : State) (evs : List HostEvent) : (s.withInputs evs).counter = s.counter := rfl
@[simp] theorem State.withInputs_selector (s : State) (evs : List HostEvent) : (s.withInputs evs).selector = s.selector := rfl
@[simp] theorem State.withInputs_variant (s : State) (evs : List HostEvent) : (s.withInputs evs).variant = s.variant := rfl
@[simp] theorem State.withInputs_stateValid (s : State) (evs : List HostEvent) : (s.withInputs evs).stateValid = s.stateValid := rfl
@[simp] theorem State.withInputs_out (s : State) (evs : List HostEvent) : (s.withInputs evs).out = s.out := rfl
@[simp] theorem State.withInputs_status (s : State) (evs : List HostEvent) : (s.withInputs evs).status = s.status := rfl
@[simp] theorem State.withInputs_sa (s : State) (evs : List HostEvent) : (s.withInputs evs).sa = s.sa := rfl
@[simp] theorem State.withInputs_sb (s : State) (evs : List HostEvent) : (s.withInputs evs).sb = s.sb := rfl
@[simp] theorem State.withInputs_sl (s : State) (evs : List HostEvent) : (s.withInputs evs).sl = s.sl := rfl
@[simp] theorem State.withInputs_inputs (s : State) (evs : List HostEvent) : (s.withInputs evs).inputs = evs := rfl

/-! ### construct -/

@[simp] theorem State.construct_counter (s : State) (v : Variant) (c sel : Word128) : (s.construct v c sel).counter = c := rfl
@[simp] theorem State.construct_selector (s : State) (v : Variant) (c sel : Word128) : (s.construct v c sel).selector = sel := rfl
@[simp] theorem State.construct_variant (s : State) (v : Variant) (c sel : Word128) : (s.construct v c sel).variant = v := rfl
@[simp] theorem State.construct_stateValid (s : State) (v : Variant) (c sel : Word128) : (s.construct v c sel).stateValid = true := rfl
@[simp] theorem State.construct_out (s : State) (v : Variant) (c sel : Word128) : (s.construct v c sel).out = s.out := rfl
@[simp] theorem State.construct_status (s : State) (v : Variant) (c sel : Word128) : (s.construct v c sel).status = s.status := rfl
@[simp] theorem State.construct_sa (s : State) (v : Variant) (c sel : Word128) : (s.construct v c sel).sa = s.sa := rfl
@[simp] theorem State.construct_sb (s : State) (v : Variant) (c sel : Word128) : (s.construct v c sel).sb = s.sb := rfl
@[simp] theorem State.construct_sl (s : State) (v : Variant) (c sel : Word128) : (s.construct v c sel).sl = s.sl := rfl
@[simp] theorem State.construct_inputs (s : State) (v : Variant) (c sel : Word128) : (s.construct v c sel).inputs = s.inputs := rfl

/-! ### initAbsorber -/

@[simp] theorem State.initAbsorber_counter (s : State) (k : Config) : (s.initAbsorber k).counter = s.counter := rfl
@[simp] theorem State.initAbsorber_selector (s : State) (k : Config) : (s.initAbsorber k).selector = s.selector := rfl
@[simp] theorem State.initAbsorber_variant (s : State) (k : Config) : (s.initAbsorber k).variant = s.variant := rfl
@[simp] theorem State.initAbsorber_stateValid (s : State) (k : Config) : (s.initAbsorber k).stateValid = s.stateValid := rfl
@[simp] theorem State.initAbsorber_out (s : State) (k : Config) : (s.initAbsorber k).out = s.out := rfl
@[simp] theorem State.initAbsorber_status (s : State) (k : Config) : (s.initAbsorber k).status = s.status := rfl
@[simp] theorem State.initAbsorber_sa (s : State) (k : Config) : (s.initAbsorber k).sa = k.seedIvA := rfl
@[simp] theorem State.initAbsorber_sb (s : State) (k : Config) : (s.initAbsorber k).sb = k.seedIvB := rfl
@[simp] theorem State.initAbsorber_sl (s : State) (k : Config) : (s.initAbsorber k).sl = 0 := rfl
@[simp] theorem State.initAbsorber_inputs (s : State) (k : Config) : (s.initAbsorber k).inputs = s.inputs := rfl

/-! ### reject -/

@[simp] theorem State.reject_counter (s : State) (cause : Cause) : (s.reject cause).counter = s.counter := rfl
@[simp] theorem State.reject_selector (s : State) (cause : Cause) : (s.reject cause).selector = s.selector := rfl
@[simp] theorem State.reject_variant (s : State) (cause : Cause) : (s.reject cause).variant = s.variant := rfl
@[simp] theorem State.reject_stateValid (s : State) (cause : Cause) : (s.reject cause).stateValid = s.stateValid := rfl
@[simp] theorem State.reject_out (s : State) (cause : Cause) : (s.reject cause).out = s.out := rfl
@[simp] theorem State.reject_status (s : State) (cause : Cause) : (s.reject cause).status = s.status.raise cause := rfl
@[simp] theorem State.reject_sa (s : State) (cause : Cause) : (s.reject cause).sa = s.sa := rfl
@[simp] theorem State.reject_sb (s : State) (cause : Cause) : (s.reject cause).sb = s.sb := rfl
@[simp] theorem State.reject_sl (s : State) (cause : Cause) : (s.reject cause).sl = s.sl := rfl
@[simp] theorem State.reject_inputs (s : State) (cause : Cause) : (s.reject cause).inputs = s.inputs := rfl

/-! ### clearStatus -/

@[simp] theorem State.clearStatus_counter (s : State) : (s.clearStatus).counter = s.counter := rfl
@[simp] theorem State.clearStatus_selector (s : State) : (s.clearStatus).selector = s.selector := rfl
@[simp] theorem State.clearStatus_variant (s : State) : (s.clearStatus).variant = s.variant := rfl
@[simp] theorem State.clearStatus_stateValid (s : State) : (s.clearStatus).stateValid = s.stateValid := rfl
@[simp] theorem State.clearStatus_out (s : State) : (s.clearStatus).out = s.out := rfl
@[simp] theorem State.clearStatus_status (s : State) : (s.clearStatus).status = Status.clear := rfl
@[simp] theorem State.clearStatus_sa (s : State) : (s.clearStatus).sa = s.sa := rfl
@[simp] theorem State.clearStatus_sb (s : State) : (s.clearStatus).sb = s.sb := rfl
@[simp] theorem State.clearStatus_sl (s : State) : (s.clearStatus).sl = s.sl := rfl
@[simp] theorem State.clearStatus_inputs (s : State) : (s.clearStatus).inputs = s.inputs := rfl

/-! ### mixed -/

@[simp] theorem State.mixed_counter (s : State) (k : Config) : (s.mixed k).counter = s.counter := rfl
@[simp] theorem State.mixed_selector (s : State) (k : Config) : (s.mixed k).selector = s.selector := rfl
@[simp] theorem State.mixed_variant (s : State) (k : Config) : (s.mixed k).variant = s.variant := rfl
@[simp] theorem State.mixed_stateValid (s : State) (k : Config) : (s.mixed k).stateValid = s.stateValid := rfl
@[simp] theorem State.mixed_out (s : State) (k : Config) : (s.mixed k).out = s.hash k s.counter := rfl
@[simp] theorem State.mixed_status (s : State) (k : Config) : (s.mixed k).status = s.status := rfl
@[simp] theorem State.mixed_sa (s : State) (k : Config) : (s.mixed k).sa = s.sa := rfl
@[simp] theorem State.mixed_sb (s : State) (k : Config) : (s.mixed k).sb = s.sb := rfl
@[simp] theorem State.mixed_sl (s : State) (k : Config) : (s.mixed k).sl = s.sl := rfl
@[simp] theorem State.mixed_inputs (s : State) (k : Config) : (s.mixed k).inputs = s.inputs := rfl

/-! ### stepped -/

@[simp] theorem State.stepped_counter (s : State) (k : Config) : (s.stepped k).counter = stepCounter k (s.increment k) s.counter := rfl
@[simp] theorem State.stepped_selector (s : State) (k : Config) : (s.stepped k).selector = s.selector := rfl
@[simp] theorem State.stepped_variant (s : State) (k : Config) : (s.stepped k).variant = s.variant := rfl
@[simp] theorem State.stepped_stateValid (s : State) (k : Config) : (s.stepped k).stateValid = s.stateValid := rfl
@[simp] theorem State.stepped_out (s : State) (k : Config) : (s.stepped k).out = s.out := rfl
@[simp] theorem State.stepped_status (s : State) (k : Config) : (s.stepped k).status = s.status := rfl
@[simp] theorem State.stepped_sa (s : State) (k : Config) : (s.stepped k).sa = s.sa := rfl
@[simp] theorem State.stepped_sb (s : State) (k : Config) : (s.stepped k).sb = s.sb := rfl
@[simp] theorem State.stepped_sl (s : State) (k : Config) : (s.stepped k).sl = s.sl := rfl
@[simp] theorem State.stepped_inputs (s : State) (k : Config) : (s.stepped k).inputs = s.inputs := rfl

/-! ### drawn -/

@[simp] theorem State.drawn_counter (s : State) (k : Config) : (s.drawn k).counter = stepCounter k (s.increment k) s.counter := rfl
@[simp] theorem State.drawn_selector (s : State) (k : Config) : (s.drawn k).selector = s.selector := rfl
@[simp] theorem State.drawn_variant (s : State) (k : Config) : (s.drawn k).variant = s.variant := rfl
@[simp] theorem State.drawn_stateValid (s : State) (k : Config) : (s.drawn k).stateValid = s.stateValid := rfl
@[simp] theorem State.drawn_out (s : State) (k : Config) : (s.drawn k).out = s.drawWord k := rfl
@[simp] theorem State.drawn_status (s : State) (k : Config) : (s.drawn k).status = s.status := rfl
@[simp] theorem State.drawn_sa (s : State) (k : Config) : (s.drawn k).sa = s.sa := rfl
@[simp] theorem State.drawn_sb (s : State) (k : Config) : (s.drawn k).sb = s.sb := rfl
@[simp] theorem State.drawn_sl (s : State) (k : Config) : (s.drawn k).sl = s.sl := rfl
@[simp] theorem State.drawn_inputs (s : State) (k : Config) : (s.drawn k).inputs = s.inputs := rfl

/-! ### jumped -/

@[simp] theorem State.jumped_counter (s : State) (k : Config) (e : Word128) : (s.jumped k e).counter = (power (stepMap k (s.increment k)) e).apply s.counter := rfl
@[simp] theorem State.jumped_selector (s : State) (k : Config) (e : Word128) : (s.jumped k e).selector = s.selector := rfl
@[simp] theorem State.jumped_variant (s : State) (k : Config) (e : Word128) : (s.jumped k e).variant = s.variant := rfl
@[simp] theorem State.jumped_stateValid (s : State) (k : Config) (e : Word128) : (s.jumped k e).stateValid = s.stateValid := rfl
@[simp] theorem State.jumped_out (s : State) (k : Config) (e : Word128) : (s.jumped k e).out = s.out := rfl
@[simp] theorem State.jumped_status (s : State) (k : Config) (e : Word128) : (s.jumped k e).status = s.status := rfl
@[simp] theorem State.jumped_sa (s : State) (k : Config) (e : Word128) : (s.jumped k e).sa = s.sa := rfl
@[simp] theorem State.jumped_sb (s : State) (k : Config) (e : Word128) : (s.jumped k e).sb = s.sb := rfl
@[simp] theorem State.jumped_sl (s : State) (k : Config) (e : Word128) : (s.jumped k e).sl = s.sl := rfl
@[simp] theorem State.jumped_inputs (s : State) (k : Config) (e : Word128) : (s.jumped k e).inputs = s.inputs := rfl

/-! ### absorbed -/

@[simp] theorem State.absorbed_counter (s : State) (n : Nat) (x : Word128) : (s.absorbed n x).counter = s.counter := rfl
@[simp] theorem State.absorbed_selector (s : State) (n : Nat) (x : Word128) : (s.absorbed n x).selector = s.selector := rfl
@[simp] theorem State.absorbed_variant (s : State) (n : Nat) (x : Word128) : (s.absorbed n x).variant = s.variant := rfl
@[simp] theorem State.absorbed_stateValid (s : State) (n : Nat) (x : Word128) : (s.absorbed n x).stateValid = s.stateValid := rfl
@[simp] theorem State.absorbed_out (s : State) (n : Nat) (x : Word128) : (s.absorbed n x).out = s.out := rfl
@[simp] theorem State.absorbed_status (s : State) (n : Nat) (x : Word128) : (s.absorbed n x).status = s.status := rfl
@[simp] theorem State.absorbed_sa (s : State) (n : Nat) (x : Word128) : (s.absorbed n x).sa = fmix64 (s.sa ^^^ chunkOperand n x) := rfl
@[simp] theorem State.absorbed_sb (s : State) (n : Nat) (x : Word128) : (s.absorbed n x).sb = fmix64 (s.sb ^^^ fmix64 (s.sa ^^^ chunkOperand n x)) := rfl
@[simp] theorem State.absorbed_sl (s : State) (n : Nat) (x : Word128) : (s.absorbed n x).sl = s.sl + BitVec.ofNat 64 n := rfl
@[simp] theorem State.absorbed_inputs (s : State) (n : Nat) (x : Word128) : (s.absorbed n x).inputs = s.inputs := rfl

/-! ### seeded -/

@[simp] theorem State.seeded_counter (s : State) (k : Config) (v : Variant) (sel : Option Word128) : (s.seeded k v sel).counter = s.seedCounter k := rfl
@[simp] theorem State.seeded_selector (s : State) (k : Config) (v : Variant) (sel : Option Word128) : (s.seeded k v sel).selector = s.seedSelector k v sel := rfl
@[simp] theorem State.seeded_variant (s : State) (k : Config) (v : Variant) (sel : Option Word128) : (s.seeded k v sel).variant = v := rfl
@[simp] theorem State.seeded_stateValid (s : State) (k : Config) (v : Variant) (sel : Option Word128) : (s.seeded k v sel).stateValid = true := rfl
@[simp] theorem State.seeded_out (s : State) (k : Config) (v : Variant) (sel : Option Word128) : (s.seeded k v sel).out = s.out := rfl
@[simp] theorem State.seeded_status (s : State) (k : Config) (v : Variant) (sel : Option Word128) : (s.seeded k v sel).status = s.status := rfl
@[simp] theorem State.seeded_sa (s : State) (k : Config) (v : Variant) (sel : Option Word128) : (s.seeded k v sel).sa = k.seedIvA := rfl
@[simp] theorem State.seeded_sb (s : State) (k : Config) (v : Variant) (sel : Option Word128) : (s.seeded k v sel).sb = k.seedIvB := rfl
@[simp] theorem State.seeded_sl (s : State) (k : Config) (v : Variant) (sel : Option Word128) : (s.seeded k v sel).sl = 0 := rfl
@[simp] theorem State.seeded_inputs (s : State) (k : Config) (v : Variant) (sel : Option Word128) : (s.seeded k v sel).inputs = s.inputs := rfl

/-! ### INC, hash and tap read VARIANT and SELECTOR alone -/

@[simp] theorem State.withCounter_increment (s : State) (c : Word128) (k : Config) : (s.withCounter c).increment k = s.increment k := rfl
@[simp] theorem State.withCounter_hash (s : State) (c : Word128) (k : Config) : (s.withCounter c).hash k = s.hash k := rfl
@[simp] theorem State.withCounter_tap (s : State) (c : Word128) (k : Config) : (s.withCounter c).tap k = s.tap k := rfl
@[simp] theorem State.withOut_increment (s : State) (h : Word64) (k : Config) : (s.withOut h).increment k = s.increment k := rfl
@[simp] theorem State.withOut_hash (s : State) (h : Word64) (k : Config) : (s.withOut h).hash k = s.hash k := rfl
@[simp] theorem State.withOut_tap (s : State) (h : Word64) (k : Config) : (s.withOut h).tap k = s.tap k := rfl
@[simp] theorem State.withAbsorber_increment (s : State) (a b l : Word64) (k : Config) : (s.withAbsorber a b l).increment k = s.increment k := rfl
@[simp] theorem State.withAbsorber_hash (s : State) (a b l : Word64) (k : Config) : (s.withAbsorber a b l).hash k = s.hash k := rfl
@[simp] theorem State.withAbsorber_tap (s : State) (a b l : Word64) (k : Config) : (s.withAbsorber a b l).tap k = s.tap k := rfl
@[simp] theorem State.withInputs_increment (s : State) (evs : List HostEvent) (k : Config) : (s.withInputs evs).increment k = s.increment k := rfl
@[simp] theorem State.withInputs_hash (s : State) (evs : List HostEvent) (k : Config) : (s.withInputs evs).hash k = s.hash k := rfl
@[simp] theorem State.withInputs_tap (s : State) (evs : List HostEvent) (k : Config) : (s.withInputs evs).tap k = s.tap k := rfl
@[simp] theorem State.initAbsorber_increment (s : State) (k : Config) (j : Config) : (s.initAbsorber k).increment j = s.increment j := rfl
@[simp] theorem State.initAbsorber_hash (s : State) (k : Config) (j : Config) : (s.initAbsorber k).hash j = s.hash j := rfl
@[simp] theorem State.initAbsorber_tap (s : State) (k : Config) (j : Config) : (s.initAbsorber k).tap j = s.tap j := rfl
@[simp] theorem State.reject_increment (s : State) (cause : Cause) (k : Config) : (s.reject cause).increment k = s.increment k := rfl
@[simp] theorem State.reject_hash (s : State) (cause : Cause) (k : Config) : (s.reject cause).hash k = s.hash k := rfl
@[simp] theorem State.reject_tap (s : State) (cause : Cause) (k : Config) : (s.reject cause).tap k = s.tap k := rfl
@[simp] theorem State.clearStatus_increment (s : State) (k : Config) : (s.clearStatus).increment k = s.increment k := rfl
@[simp] theorem State.clearStatus_hash (s : State) (k : Config) : (s.clearStatus).hash k = s.hash k := rfl
@[simp] theorem State.clearStatus_tap (s : State) (k : Config) : (s.clearStatus).tap k = s.tap k := rfl
@[simp] theorem State.mixed_increment (s : State) (k : Config) (j : Config) : (s.mixed k).increment j = s.increment j := rfl
@[simp] theorem State.mixed_hash (s : State) (k : Config) (j : Config) : (s.mixed k).hash j = s.hash j := rfl
@[simp] theorem State.mixed_tap (s : State) (k : Config) (j : Config) : (s.mixed k).tap j = s.tap j := rfl
@[simp] theorem State.stepped_increment (s : State) (k : Config) (j : Config) : (s.stepped k).increment j = s.increment j := rfl
@[simp] theorem State.stepped_hash (s : State) (k : Config) (j : Config) : (s.stepped k).hash j = s.hash j := rfl
@[simp] theorem State.stepped_tap (s : State) (k : Config) (j : Config) : (s.stepped k).tap j = s.tap j := rfl
@[simp] theorem State.drawn_increment (s : State) (k : Config) (j : Config) : (s.drawn k).increment j = s.increment j := rfl
@[simp] theorem State.drawn_hash (s : State) (k : Config) (j : Config) : (s.drawn k).hash j = s.hash j := rfl
@[simp] theorem State.drawn_tap (s : State) (k : Config) (j : Config) : (s.drawn k).tap j = s.tap j := rfl
@[simp] theorem State.jumped_increment (s : State) (k : Config) (e : Word128) (j : Config) : (s.jumped k e).increment j = s.increment j := rfl
@[simp] theorem State.jumped_hash (s : State) (k : Config) (e : Word128) (j : Config) : (s.jumped k e).hash j = s.hash j := rfl
@[simp] theorem State.jumped_tap (s : State) (k : Config) (e : Word128) (j : Config) : (s.jumped k e).tap j = s.tap j := rfl
@[simp] theorem State.absorbed_increment (s : State) (n : Nat) (x : Word128) (k : Config) : (s.absorbed n x).increment k = s.increment k := rfl
@[simp] theorem State.absorbed_hash (s : State) (n : Nat) (x : Word128) (k : Config) : (s.absorbed n x).hash k = s.hash k := rfl
@[simp] theorem State.absorbed_tap (s : State) (n : Nat) (x : Word128) (k : Config) : (s.absorbed n x).tap k = s.tap k := rfl

end Sys2Proof.Machine
end

