-- ==== Sys2Proof/Laws/Ops.lean ====
section
/-! SUPPORT. For each shared operation, what it can do, said once: the guard of the generator commands, rejecting,
performing a command, taking the host's next event, performing a list; and one inversion lemma for exec. -/

namespace Sys2Proof.Machine

/-! ### The guard on STATE_VALID -/

@[simp] theorem State.whenConstructed_of_valid {s : State} {f : State → State} (h : s.stateValid = true) :
    s.whenConstructed f = .next (f s) := by simp [State.whenConstructed, h]

@[simp] theorem State.whenConstructed_of_not_valid {s : State} {f : State → State} (h : s.stateValid = false) :
    s.whenConstructed f = .next (s.reject .nost) := by simp [State.whenConstructed, h]

/-- The guard always answers a next state, one of two. -/
theorem State.whenConstructed_eq_next {s t : State} {f : State → State} :
    s.whenConstructed f = .next t ↔
      (s.stateValid = true ∧ t = f s) ∨ (s.stateValid = false ∧ t = s.reject .nost) := by
  cases h : s.stateValid <;> simp [h, eq_comm]

/-! ### Status -/

@[simp] theorem Status.raise_ill (st : Status) : st.raise .ill = { st with ill := true } := rfl

@[simp] theorem Status.raise_nost (st : Status) : st.raise .nost = { st with nost := true } := rfl

theorem Status.word_toNat (st : Status) : st.word.toNat = st.ill.toNat + 2 * st.nost.toNat := by
  obtain ⟨i, n⟩ := st
  cases i <;> cases n <;> rfl

/-! ### exec -/

@[simp] theorem exec_nop (s : State) : exec .nop s = .next s := rfl
@[simp] theorem exec_load (v : Variant) (c sel : Word128) (s : State) :
    exec (.load v c sel) s = .next (s.construct v c (selectorOperand v sel)) := rfl
@[simp] theorem exec_step (s : State) : exec .step s = s.whenConstructed (·.stepped config) := rfl
@[simp] theorem exec_draw (s : State) : exec .draw s = s.whenConstructed (·.drawn config) := rfl
@[simp] theorem exec_mix (s : State) : exec .mix s = s.whenConstructed (·.mixed config) := rfl
@[simp] theorem exec_jump (e : Word128) (s : State) :
    exec (.jump e) s = s.whenConstructed (·.jumped config e) := rfl
@[simp] theorem exec_seedInit (s : State) : exec .seedInit s = .next (s.initAbsorber config) := rfl
@[simp] theorem exec_seedAbsorb (n : Nat) (x : Word128) (s : State) :
    exec (.seedAbsorb n x) s = .next (s.absorbed n x) := rfl
@[simp] theorem exec_seedFinal (v : Variant) (sel : Option Word128) (s : State) :
    exec (.seedFinal v sel) s = .next (s.seeded config v sel) := rfl
@[simp] theorem exec_clrst (s : State) : exec .clrst s = .next s.clearStatus := rfl

/-- What exec can do: each instruction's effect on a state that may run it, or the rejection with NOST. -/
theorem exec_cases {i : Instr} {s t : State} (h : exec i s = .next t) :
    (i = .nop ∧ t = s) ∨
    (∃ v c sel, i = .load v c sel ∧ t = s.construct v c (selectorOperand v sel)) ∨
    (i = .step ∧ s.stateValid = true ∧ t = s.stepped config) ∨
    (i = .draw ∧ s.stateValid = true ∧ t = s.drawn config) ∨
    (i = .mix ∧ s.stateValid = true ∧ t = s.mixed config) ∨
    (∃ e, i = .jump e ∧ s.stateValid = true ∧ t = s.jumped config e) ∨
    (i = .seedInit ∧ t = s.initAbsorber config) ∨
    (∃ n x, i = .seedAbsorb n x ∧ t = s.absorbed n x) ∨
    (∃ v sel, i = .seedFinal v sel ∧ t = s.seeded config v sel) ∨
    (i = .clrst ∧ t = s.clearStatus) ∨
    (ReadsGenerator i ∧ s.stateValid = false ∧ t = s.reject .nost) := by
  cases i with
  | nop => cases h; simp
  | load v c sel => cases h; simp
  | step =>
    rw [exec_step, State.whenConstructed_eq_next] at h
    rcases h with ⟨hv, rfl⟩ | ⟨hv, rfl⟩ <;> simp [hv, ReadsGenerator, Instr.readsGenerator]
  | draw =>
    rw [exec_draw, State.whenConstructed_eq_next] at h
    rcases h with ⟨hv, rfl⟩ | ⟨hv, rfl⟩ <;> simp [hv, ReadsGenerator, Instr.readsGenerator]
  | mix =>
    rw [exec_mix, State.whenConstructed_eq_next] at h
    rcases h with ⟨hv, rfl⟩ | ⟨hv, rfl⟩ <;> simp [hv, ReadsGenerator, Instr.readsGenerator]
  | jump e =>
    rw [exec_jump, State.whenConstructed_eq_next] at h
    rcases h with ⟨hv, rfl⟩ | ⟨hv, rfl⟩ <;> simp [hv, ReadsGenerator, Instr.readsGenerator]
  | seedInit => cases h; simp
  | seedAbsorb n x => cases h; simp
  | seedFinal v sel => cases h; simp
  | clrst => cases h; simp

/-! ### Performing and accepting -/

theorem perform_of_error {c : Command} {e : DecodeError} (h : decode c = .error e) (s : State) :
    perform c s = .next (s.reject .ill) := by simp [perform, h]

theorem perform_of_ok {c : Command} {i : Instr} (h : decode c = .ok i) (s : State) :
    perform c s = exec i s := by simp [perform, h]

/-- What performing a command can do: reject it with ILL, or what exec of the decoded command does. -/
theorem perform_cases {c : Command} {s t : State} (h : perform c s = .next t) :
    ((∃ e, decode c = .error e) ∧ t = s.reject .ill) ∨ ∃ i, decode c = .ok i ∧ exec i s = .next t := by
  cases hd : decode c with
  | error e => rw [perform_of_error hd] at h; cases h; simp
  | ok i => rw [perform_of_ok hd] at h; simp [h]

/-- What taking the host's next event can do. -/
theorem acceptNext_cases {s t : State} (h : acceptNext s = .next t) :
    (s.inputs = [] ∧ t = s) ∨
    (∃ c rest, s.inputs = .command c :: rest ∧ perform c (s.withInputs rest) = .next t) ∨
    (∃ p rest, s.inputs = .reset p :: rest ∧ t = (s.withInputs rest).assertReset p) := by
  unfold acceptNext at h
  split at h
  · rename_i hi; cases h; simp [hi]
  · rename_i c rest hi; exact .inr (.inl ⟨c, rest, hi, h⟩)
  · rename_i p rest hi; cases h; exact .inr (.inr ⟨p, rest, hi, rfl⟩)

/-! ### Lists of instructions -/

@[simp] theorem execAll_nil (s : State) : execAll [] s = .next s := rfl

theorem execAll_cons {i : Instr} {s t : State} (h : exec i s = .next t) (is : List Instr) :
    execAll (i :: is) s = execAll is t := by simp [execAll, h]

end Sys2Proof.Machine
end

