-- ==== Sys2Proof/Laws/PerInstr.lean ====
section
/-! SUPPORT. A law of every instruction as syntax: the word it is encoded as lies in its mnemonic's row of the
match/mask table (30_encoding.md R75). -/

namespace Sys2Proof.Laws.EncodedInItsRow

def Statement (i : Instr) : Prop := i.WellFormed → i.row.Matches (encodeWord i)

theorem nop : Statement .nop := fun _ => by decide

theorem load (v : Variant) (c sel : Word128) : Statement (.load v c sel) := fun _ => by
  show packWord 0x01#32 v.bit false 0 &&& 0xFFFFFEFF#32 = 0x00000001#32
  cases v <;> decide

theorem step : Statement .step := fun _ => by decide

theorem draw : Statement .draw := fun _ => by decide

theorem mix : Statement .mix := fun _ => by decide

theorem jump (e : Word128) : Statement (.jump e) := fun _ => by
  show packWord 0x05#32 false false 0 &&& 0xFFFFFFFF#32 = 0x00000005#32
  decide

theorem seedInit : Statement .seedInit := fun _ => by decide

theorem seedAbsorb (n : Nat) (x : Word128) : Statement (.seedAbsorb n x) := fun h => by
  simp only [Instr.WellFormed, Instr.wellFormed, Bool.and_eq_true, decide_eq_true_eq] at h
  show packWord 0x07#32 false false (n - 1) &&& 0xFFFFE3FF#32 = 0x00000007#32
  obtain ⟨h1, h8⟩ := h
  interval_cases n <;> decide

theorem seedFinal (v : Variant) (sel : Option Word128) : Statement (.seedFinal v sel) := fun _ => by
  show packWord 0x08#32 v.bit sel.isSome 0 &&& 0xFFFFFCFF#32 = 0x00000008#32
  generalize sel.isSome = s
  cases v <;> cases s <;> decide

theorem clrst : Statement .clrst := fun _ => by decide

end Sys2Proof.Laws.EncodedInItsRow
end

