-- ==== Sys2Proof/Laws/Words.lean ====
section
/-! SUPPORT. What the slicing operations and the operand forms are as numbers, and the inversion lemma of decode. -/

namespace Sys2Proof

@[simp] theorem lo64_toNat (v : Word128) : (lo64 v).toNat = v.toNat % 2 ^ 64 := by
  simp [lo64, BitVec.extractLsb'_toNat]

@[simp] theorem hi64_toNat (v : Word128) : (hi64 v).toNat = v.toNat / 2 ^ 64 := by
  have := v.isLt
  simp only [hi64, BitVec.extractLsb'_toNat, Nat.shiftRight_eq_div_pow]
  omega

@[simp] theorem zext128_toNat (v : Word64) : (zext128 v).toNat = v.toNat := by
  have := v.isLt
  simp only [zext128, BitVec.toNat_setWidth]
  omega

@[simp] theorem lo64_zext128 (v : Word64) : lo64 (zext128 v) = v :=
  BitVec.eq_of_toNat_eq (by have := v.isLt; simp only [lo64_toNat, zext128_toNat]; omega)

@[simp] theorem hi64_zext128 (v : Word64) : hi64 (zext128 v) = 0#64 :=
  BitVec.eq_of_toNat_eq (by have := v.isLt; simp only [hi64_toNat, zext128_toNat, BitVec.toNat_ofNat]; omega)

theorem zext128_lo64_of_hi64_eq_zero {v : Word128} (h : hi64 v = 0#64) : zext128 (lo64 v) = v :=
  BitVec.eq_of_toNat_eq (by
    have hv := congrArg BitVec.toNat h
    simp only [hi64_toNat, BitVec.toNat_ofNat] at hv
    simp only [zext128_toNat, lo64_toNat]
    omega)

/-- A chunk operand is the n low bytes of OPA (45_seeder.md R184). -/
theorem Machine.chunkOperand_toNat {n : Nat} (hn : n ≤ 8) (x : Word128) :
    (Machine.chunkOperand n x).toNat = x.toNat % 2 ^ (8 * n) := by
  have h : 2 ^ (8 * n) - 1 < 2 ^ 64 := by
    have := Nat.pow_le_pow_right (n := 2) (by decide) (show 8 * n ≤ 64 by omega)
    have := Nat.two_pow_pos (8 * n)
    omega
  simp only [Machine.chunkOperand, BitVec.toNat_and, lo64_toNat, BitVec.toNat_ofNat]
  rw [Nat.mod_eq_of_lt h, Nat.and_two_pow_sub_one_eq_mod, Nat.mod_mod_of_dvd]
  exact Nat.pow_dvd_pow 2 (by omega)

/-- What a successful decode says: an assigned opcode, and no 1 in a bit it does not use (30_encoding.md R78). -/
theorem decode_eq_ok_iff {c : Command} {i : Instr} :
    decode c = .ok i ↔ ∃ used, usedBits (opField c.cmd) = some used ∧ strayBits c.cmd used = 0#32 ∧ instrOf c = .ok i := by
  unfold decode
  cases h : usedBits (opField c.cmd) with
  | none => simp
  | some used => by_cases hs : strayBits c.cmd used = 0#32 <;> simp [hs]

end Sys2Proof
end

