-- ==== Sys2Proof/Tests/Slice0.lean ====
section
/-! SUPPORT. The model's own tests. Expected numbers are the spec's vectors (95_test_vectors.md, ids in the comments) or
the words of 30_encoding.md R80. Then, for each statement that has hypotheses, values that meet them. -/

namespace Sys2Proof.Tests

open Sys2Proof.Machine

/-- The next state of an outcome, if it is one. -/
def nextOf : Host.Outcome State Fault Refusal → Option State
  | .next t => some t
  | .fault _ => none
  | .refused _ => none

/-- A constructed state with the given variant, COUNTER and SELECTOR, the rest as after reset. -/
def made (v : Variant) (c sel : Word128) : State := State.reset.construct v c sel

def c0 : Word128 := 0x0123456789abcdeffedcba9876543210
def s0 : Word128 := 0xfedcba98765432100123456789abcdef

/-! ### Well-formedness: a chunk length of 0 and of 9 is refused, 1 and 8 are not -/

theorem test_illformed_chunk_0 : ¬ (Instr.seedAbsorb 0 0).WellFormed := by decide
theorem test_illformed_chunk_9 : ¬ (Instr.seedAbsorb 9 0).WellFormed := by decide
theorem test_wellformed_chunks : (Instr.seedAbsorb 1 0).WellFormed ∧ (Instr.seedAbsorb 8 0).WellFormed := by decide

/-! ### Decoding: R80's words in binary, one for each constructor (E1, E3, E6, E8, E10) -/

theorem test_decode_nop : decode ⟨0b00000000000000000000000000000000, 5, 6⟩ = .ok .nop := by decide
theorem test_decode_load_n : decode ⟨0b00000000000000000000000000000001, 5, 6⟩ = .ok (.load .narrow 5 6) := by decide
theorem test_decode_load_w : decode ⟨0b00000000000000000000000100000001, 5, 6⟩ = .ok (.load .wide 5 6) := by decide
theorem test_decode_step : decode ⟨0b00000000000000000000000000000010, 5, 6⟩ = .ok .step := by decide
theorem test_decode_draw : decode ⟨0b00000000000000000000000000000011, 5, 6⟩ = .ok .draw := by decide
theorem test_decode_mix : decode ⟨0b00000000000000000000000000000100, 5, 6⟩ = .ok .mix := by decide
theorem test_decode_jump : decode ⟨0b00000000000000000000000000000101, 5, 6⟩ = .ok (.jump 5) := by decide
theorem test_decode_seed_init : decode ⟨0b00000000000000000000000000000110, 5, 6⟩ = .ok .seedInit := by decide
theorem test_decode_seed_absorb_1 : decode ⟨0b00000000000000000000000000000111, 5, 6⟩ = .ok (.seedAbsorb 1 5) := by
  decide
theorem test_decode_seed_absorb_8 : decode ⟨0b00000000000000000001110000000111, 5, 6⟩ = .ok (.seedAbsorb 8 5) := by
  decide
theorem test_decode_seed_final_n : decode ⟨0b00000000000000000000000000001000, 5, 6⟩ = .ok (.seedFinal .narrow none) := by
  decide
theorem test_decode_seed_final_ns :
    decode ⟨0b00000000000000000000001000001000, 5, 6⟩ = .ok (.seedFinal .narrow (some 6)) := by decide
theorem test_decode_seed_final_w : decode ⟨0b00000000000000000000000100001000, 5, 6⟩ = .ok (.seedFinal .wide none) := by
  decide
theorem test_decode_clrst : decode ⟨0b00000000000000000000000000001001, 5, 6⟩ = .ok .clrst := by decide

/-- E2, E4, E5, E7, E9, E13: a bit the opcode does not use. -/
theorem test_decode_reserved_bits :
    decode ⟨0x00000100, 0, 0⟩ = .error (.reservedBits 0 0x100) ∧
    decode ⟨0x00000201, 0, 0⟩ = .error (.reservedBits 1 0x200) ∧
    decode ⟨0x00000102, 0, 0⟩ = .error (.reservedBits 2 0x100) ∧
    decode ⟨0x00002007, 0, 0⟩ = .error (.reservedBits 7 0x2000) ∧
    decode ⟨0x00000408, 0, 0⟩ = .error (.reservedBits 8 0x400) ∧
    decode ⟨0x80000003, 0, 0⟩ = .error (.reservedBits 3 0x80000000) := by decide

/-- E11, E12: a reserved opcode. -/
theorem test_decode_reserved_opcode :
    decode ⟨0x0000000a, 0, 0⟩ = .error (.reservedOpcode 0x0a) ∧
    decode ⟨0x000000ff, 0, 0⟩ = .error (.reservedOpcode 0xff) := by decide

/-- The host's reading of a table word (opcode_table.json, rows SEED_ABSORB and SEED_FINAL). -/
theorem test_decodeTableWord :
    decodeTableWord 32 0x00000C07 = some (.seedAbsorb 4 0) ∧
    decodeTableWord 32 0x00000308 = some (.seedFinal .wide (some 0)) ∧
    decodeTableWord 32 0x0000000A = none := by decide

/-- R80's words for n = 1..8 and the four forms of SEED.FINAL. -/
theorem test_encode_words :
    (List.range 8).map (fun k => encodeWord (.seedAbsorb (k + 1) 0)) =
      [0x007, 0x407, 0x807, 0xC07, 0x1007, 0x1407, 0x1807, 0x1C07] ∧
    encodeWord (.seedFinal .narrow none) = 0x008 ∧ encodeWord (.seedFinal .narrow (some 1)) = 0x208 ∧
    encodeWord (.seedFinal .wide none) = 0x108 ∧ encodeWord (.seedFinal .wide (some 1)) = 0x308 := by decide

/-! ### Primitives -/

/-- F2, F4, F5. -/
theorem test_fmix64 :
    fmix64 1 = 0x5692161d100b05e5 ∧ fmix64 0xffffffffffffffff = 0xb4d055fcf2cbbd7b ∧
    fmix64 0x0123456789abcdef = 0xb2c058e4ebb5112c := by decide

/-- W1, W2. -/
theorem test_wmul64 :
    wmul64 0xffffffffffffffff 0xffffffffffffffff = 0xfffffffffffffffe0000000000000001 ∧
    wmul64Parts 0xda942042e4dd58b5 0xfedcba9876543210 = 0xd99b6e9fe4fc38748a6c61de128ce550 := by decide

/-- Increments of section 2.2. -/
theorem test_increment :
    config.inc .narrow 0xaaaaaaaaaaaaaaaa = 0x15555555555555555 ∧
    config.inc .wide 0x7fffffffffffffffffffffffffffffff = 0xffffffffffffffffffffffffffffffff := by decide

/-- ST6 through the datapath: the extra-bit term and the carries. -/
theorem test_datapath :
    stepDatapath config 1 0x0000000000000000ffffffffffffffff = 0xda942042e4dd58b3256bdfbd1b22a74c := by decide

/-! ### Commands -/

theorem test_nop : (nextOf (exec .nop (made .wide c0 s0))) = some (made .wide c0 s0) := by decide

/-- L4. -/
theorem test_load_narrow : (nextOf (exec (.load .narrow c0 s0) State.reset)).map (fun t => (t.counter, t.selector, t.variant,
    t.stateValid)) = some (c0, 0x0123456789abcdef, .narrow, true) := by decide

/-- L3. -/
theorem test_load_wide : (nextOf (exec (.load .wide (BitVec.allOnes 128) (BitVec.allOnes 128)) State.reset)).map
    (fun t => (t.selector, t.variant, t.sa)) =
    some (0xffffffffffffffffffffffffffffffff, .wide, 0x243f6a8885a308d3) := by decide

/-- ST5: the cross term. -/
theorem test_step_cross_term : (nextOf (exec .step (made .narrow 0x00000000000000010000000000000000 0))).map State.counter =
    some 0xda942042e4dd58b50000000000000001 := by decide

/-- X1. -/
theorem test_step_rejected : (nextOf (exec .step State.reset)).map (fun t => (t.status.word, t.counter)) = some (2, 0) := by
  decide

/-- D5. -/
theorem test_draw_wide : (nextOf (exec .draw (made .wide c0 s0))).map (fun t => (t.counter, t.out)) =
    some (0x71311c48508e909f8cb2ecad25e4812f, 0x815ad685ac5f2c6e) := by decide

/-- D7. -/
theorem test_draw_narrow : (nextOf (exec .draw (made .narrow c0 5))).map (fun t => (t.counter, t.out)) =
    some (0x7377a71763e62c7f8a6c61de128ce55b, 0x6f71064714137862) := by decide

/-- H5. -/
theorem test_mix_narrow : (nextOf (exec .mix (made .narrow c0 5))).map (fun t => (t.counter, t.out)) =
    some (c0, 0x7b655de471a66215) := by decide

/-- H8. -/
theorem test_mix_wide : (nextOf (exec .mix (made .wide 0 (BitVec.allOnes 128)))).map State.out =
    some 0x4bffd802ebfb15e4 := by decide

/-- J5. -/
theorem test_jump_1000 : (nextOf (exec (.jump 1000) (made .narrow c0 5))).map State.counter =
    some 0x39753ff275835b31976c007d69863c58 := by decide +kernel

/-- J8. -/
theorem test_jump_back_2 : (nextOf (exec (.jump (asmOperand (-2))) (made .narrow c0 5))).map State.counter =
    some 0x0aad6d4285a7ea4f58f7c73e75dc3fae := by decide +kernel

/-- Section 2.4, the power S^(2^128 - 1) with INC = 1. -/
theorem test_power : power (stepMap config 1) (BitVec.allOnes 128) =
    ⟨0x272a7e8a8dd7c8238b838d0354ead59d, 0xd8d58175722837dc747c72fcab152a63⟩ := by decide +kernel

theorem test_seed_init : (nextOf (exec .seedInit { State.reset with sa := 1, sb := 2, sl := 3 })) = some State.reset := by
  decide

/-- A2: bytes above n are masked. -/
theorem test_seed_absorb_masked : (nextOf (exec (.seedAbsorb 3 0xdeadbeef00636261) State.reset)).map
    (fun t => (t.sa, t.sb, t.sl)) = some (0xd9a133a7c4acfa22, 0x92e984f55a233b9a, 3) := by decide

/-- A3. -/
theorem test_seed_absorb_8 : (nextOf (exec (.seedAbsorb 8 0x0706050403020100) State.reset)).map
    (fun t => (t.sa, t.sb, t.sl)) = some (0x9c8ee3d7747fffb7, 0xd4dac9d158dd46bb, 8) := by decide

/-- K3: the state after "abc". -/
theorem test_seed_final_narrow : (nextOf (exec (.seedFinal .narrow none)
    { State.reset with sa := 0xd9a133a7c4acfa22, sb := 0x92e984f55a233b9a, sl := 3 })).map
    (fun t => (t.counter, t.selector, t.sa, t.sl)) =
    some (0x278c2b5244e7837a98ff9f8c20fe6553, 0xffce4e37172c0483, 0x243f6a8885a308d3, 0) := by decide

/-- K2. -/
theorem test_seed_final_wide : (nextOf (exec (.seedFinal .wide none) State.reset)).map (fun t => (t.counter, t.selector)) =
    some (0xdaa9ef3df59ae553559e370c5b31d179, 0x1cc17bdd84b010276e96f5622a1a9c8f) := by decide

/-- X3. -/
theorem test_clrst : (nextOf (exec .clrst { made .wide c0 s0 with status := ⟨true, true⟩ })) = some (made .wide c0 s0) := by
  decide

/-! ### Steps and procedures -/

/-- The next step after a word is placed runs it (P1, row 1), and X2: an illegal STEP form from reset sets only ILL. -/
theorem test_step_runs_placed_word :
    (nextOf (step (State.reset.withFetchWord 32 0x00000101))).map (fun t => (t.variant, t.stateValid, t.inputs)) =
      some (.wide, true, []) ∧
    (nextOf (step (State.reset.withFetchWord 32 0x00000102))).map (fun t => t.status.word) = some 1 := by decide

theorem test_reset_event : (nextOf (step { made .wide c0 s0 with
    status := ⟨true, false⟩, inputs := [.reset (some ⟨2, 0, 0⟩)] })) = some State.reset := by decide

/-- R187 on nine bytes (K11): a full chunk, then one byte. -/
theorem test_canonical_chunks : canonicalChunks [0, 1, 2, 3, 4, 5, 6, 7, 8] =
    [.seedAbsorb 8 0x0706050403020100, .seedAbsorb 1 0x08] := by decide

/-- R54 on a narrow state: COUNTER then the 64-bit selector, low byte first. -/
theorem test_raw_layout : (made .narrow c0 5).exportRaw =
    [0x10, 0x32, 0x54, 0x76, 0x98, 0xba, 0xdc, 0xfe, 0xef, 0xcd, 0xab, 0x89, 0x67, 0x45, 0x23, 0x01,
     5, 0, 0, 0, 0, 0, 0, 0] := by decide

/-- R80 and R81: `BACK 5` is P2's OPA. -/
theorem test_back_5 : (Pseudo.back 5).expand = some [.jump 0xfffffffffffffffffffffffffffffffb] := by decide

/-- R80: text and word of one line. -/
theorem test_asm_line : (AsmLine.seedAbsorb 3 7).text = "SEED.ABSORB 3, 7" ∧
    (AsmLine.seedAbsorb 3 7).assemble = some ⟨0x807, 7, 0⟩ := by decide

/-- R80: lines as 95_test_vectors.md writes them (R184's example, P2 row 4, K1), with a comment. -/
theorem test_read_line :
    readLine "SEED.ABSORB 3, 0xdeadbeef00636261 ; bytes".toList = some (.seedAbsorb 3 0xdeadbeef00636261) ∧
    readLine "JUMP -5".toList = some (.jump (-5)) ∧
    readLine "SEED.FINAL.N".toList = some (.seedFinal .narrow none) ∧ readLine "STEP 1".toList = none := by
  decide +kernel

/-! ### Values that meet the hypotheses of the statements

`witness_<Name>` meets the hypotheses of `Obligations.<Name>`, clause by clause in its order, at boundary values where a
clause has a range. `live` has STATE_VALID = 1, `State.reset` has 0; `completes o` says that o is a next state. -/

def live : State := made .wide c0 s0

abbrev completes (o : Host.Outcome State Fault Refusal) : Prop := (nextOf o).isSome = true

theorem witness_StepRunsDecodedCommand :
    (live.offer [.command ⟨0x1C07, 1, 0⟩]).inputs = .command ⟨0x1C07, 1, 0⟩ :: [] ∧
    decode ⟨0x1C07, 1, 0⟩ = .ok (.seedAbsorb 8 1) := by decide

theorem witness_StepTakesOneEvent :
    live.inputs = [] ∧ (live.offer [.reset none]).inputs = .reset none :: [] ∧
    ((live.offer [.command ⟨0xA, 0, 0⟩]).inputs = .command ⟨0xA, 0, 0⟩ :: [] ∧ IllegalWord 0xA) := by decide

theorem witness_RunIsSequential :
    (∀ i ∈ [Instr.seedAbsorb 8 1, .step], i.WellFormed) ∧ completes (exec (.seedAbsorb 8 1) live) ∧
    (live.offer [.command (encode (.seedAbsorb 8 1)), .command (encode .step), .reset none]).inputs =
      [Instr.seedAbsorb 8 1, .step].map (fun i => .command (encode i)) ++ [.reset none] := by decide

theorem witness_InvariantKeptByEveryStep :
    (RunInvariant ((made .narrow c0 5).offer [.command ⟨2, 0, 0⟩]) ∧
      completes (step ((made .narrow c0 5).offer [.command ⟨2, 0, 0⟩]))) ∧
    RunInvariant (State.reset.offer [.command ⟨2, 0, 0⟩]) ∧ completes (step (State.reset.offer [.command ⟨2, 0, 0⟩])) :=
  ⟨⟨⟨by decide, by decide⟩, by decide⟩, ⟨by decide, by decide⟩, by decide⟩

theorem witness_NarrowSelectorUpperHalfZero :
    (NarrowSelectorZero (made .narrow c0 5) ∧ completes (perform ⟨2, 0, 0⟩ (made .narrow c0 5))) ∧
    NarrowSelectorZero (made .narrow c0 5) ∧ NarrowSelectorZero (made .narrow 0 5) ∧
    (made .narrow c0 5).variant = .narrow ∧ (made .narrow 0 5).variant = .narrow ∧
    (made .narrow c0 5).selector.extractLsb' 0 64 = (made .narrow 0 5).selector.extractLsb' 0 64 := by decide

/-- The first and last reserved opcode, bits 13 and 31, V, S and NB; and legal words with every free bit set. -/
theorem witness_IllegalWordRejected :
    (∀ w ∈ [0x0A, 0xFF, 0x2007, 0x80000003, 0x100, 0x201, 0x408], IllegalWord w) ∧
    ∀ w ∈ [0x1C07, 0x308, 0x101], ¬ IllegalWord w := by simp [IllegalWord]

theorem witness_OpcodeMap : 0x0A ≤ ((0x0A : Word32).extractLsb' 0 8).toNat ∧
    0x0A ≤ ((0xFF : Word32).extractLsb' 0 8).toNat := by decide

theorem witness_DecodeOfEncode : (Instr.seedAbsorb 8 c0).WellFormed ∧ (Instr.seedAbsorb 1 c0).WellFormed := by decide

theorem witness_EncodeOfDecode : decode ⟨0x1C07, c0, s0⟩ = .ok (.seedAbsorb 8 c0) ∧
    Instr.step.row ∈ opcodeTable ∧ (2 : Word32) &&& Instr.step.row.mask = Instr.step.row.pattern := by decide

theorem witness_ChunkLengthField :
    ((0x1C07 : Word32).extractLsb' 0 8 = 0x07 ∧ (0x1C07 : Word32) &&& 0xFFFFE300 = 0) ∧
    ((0x007 : Word32).extractLsb' 0 8 = 0x07 ∧ (0x007 : Word32) &&& 0xFFFFE300 = 0) ∧ 1 ≤ 1 ∧ 1 ≤ 8 ∧ 8 ≤ 8 ∧
    (0x408 : Word32).extractLsb' 0 8 ≠ 0x07 ∧ (0x408 : Word32).extractLsb' 10 3 ≠ 0 := by decide

theorem witness_VariantAndSelectorFields :
    (¬ IllegalWord 0x101 ∧ (0x101 : Word32).extractLsb' 0 8 = 0x01) ∧
    (¬ IllegalWord 0x308 ∧ (0x308 : Word32).extractLsb' 0 8 = 0x08 ∧ (0x308 : Word32).getLsbD 9 = true) ∧
    (¬ IllegalWord 0x108 ∧ (0x108 : Word32).extractLsb' 0 8 = 0x08 ∧ (0x108 : Word32).getLsbD 9 = false) ∧
    ((0x102 : Word32).getLsbD 8 = true ∧ (0x102 : Word32).extractLsb' 0 8 ≠ 0x01 ∧
      (0x102 : Word32).extractLsb' 0 8 ≠ 0x08) ∧
    (0x201 : Word32).getLsbD 9 = true ∧ (0x201 : Word32).extractLsb' 0 8 ≠ 0x08 := by decide

/-- A narrow LOAD that differs in OPB[127:64], a 3-byte chunk that differs above it, a SEED_FINAL without selector and a
STEP that differ in both operands; and an illegal word. -/
theorem witness_IgnoredOperandBits :
    SameUsedBits ⟨0x001, c0, 5⟩ ⟨0x001, c0, 0xF0000000000000000000000000000005⟩ ∧
    SameUsedBits ⟨0x807, 0x636261, 1⟩ ⟨0x807, 0xdeadbeef00636261, 2⟩ ∧
    SameUsedBits ⟨0x108, 1, 2⟩ ⟨0x108, 3, 4⟩ ∧ SameUsedBits ⟨0x002, 1, 2⟩ ⟨0x002, 3, 4⟩ ∧
    decode ⟨0x102, 1, 2⟩ = .error (.reservedBits 2 0x100) := by decide

theorem witness_NopCommand : (0x100 : Word32).extractLsb' 0 8 = 0x00 ∧ (0x100 : Word32) ≠ 0 := by decide

theorem witness_ClrstCommand : NoRejection live ∧
    (0x109 : Word32).extractLsb' 0 8 = 0x09 ∧ (0x109 : Word32) ≠ 0x9 := by decide

theorem witness_LoadCommand :
    ((0x001 : Word32) &&& 0xFFFFFEFF = 0x1 ∧ (0x101 : Word32) &&& 0xFFFFFEFF = 0x1) ∧
    (0x201 : Word32).extractLsb' 0 8 = 0x01 ∧ (0x201 : Word32) &&& 0xFFFFFEFF ≠ 0x1 := by decide

theorem witness_StepCommand : live.stateValid = true ∧ State.reset.stateValid = false ∧
    ((0x102 : Word32).extractLsb' 0 8 = 0x02 ∧ (0x102 : Word32) ≠ 0x2) ∧
    (made .narrow 0 5).stateValid = true ∧ (made .narrow 0 5).counter = 0 := by decide

theorem witness_DrawCommand : live.stateValid = true ∧ State.reset.stateValid = false ∧
    (0x80000003 : Word32).extractLsb' 0 8 = 0x03 ∧ (0x80000003 : Word32) ≠ 0x3 := by decide

/-- The last two clauses: the block's configuration has tap POST, one with both taps PRE has PRE. -/
theorem witness_MixCommand : live.stateValid = true ∧ State.reset.stateValid = false ∧
    ((0x104 : Word32).extractLsb' 0 8 = 0x04 ∧ (0x104 : Word32) ≠ 0x4) ∧
    live.tap config = .post ∧ live.tap { config with tapNarrow := .pre, tapWide := .pre } = .pre := by decide

theorem witness_JumpCommand : live.stateValid = true ∧ State.reset.stateValid = false ∧ 2 ^ 127 ≤ 2 ^ 127 ∧
    (0x105 : Word32).extractLsb' 0 8 = 0x05 ∧ (0x105 : Word32) ≠ 0x5 := by decide

theorem witness_SeedInitCommand : (0x106 : Word32).extractLsb' 0 8 = 0x06 ∧ (0x106 : Word32) ≠ 0x6 := by decide

theorem witness_SeedAbsorbCommand :
    ((0x007 : Word32) &&& 0xFFFFE3FF = 0x7 ∧ (0x1C07 : Word32) &&& 0xFFFFE3FF = 0x7) ∧
    ((0x2007 : Word32).extractLsb' 0 8 = 0x07 ∧ (0x2007 : Word32) &&& 0xFFFFE3FF ≠ 0x7) ∧ (0 : BitVec 3) ≠ 7 ∧
    (0x636261 : Word128).toNat % 2 ^ (8 * ((2 : BitVec 3).toNat + 1)) =
      (0xdeadbeef00636261 : Word128).toNat % 2 ^ (8 * ((2 : BitVec 3).toNat + 1)) := by decide

theorem witness_SeedFinalCommand :
    ((0x008 : Word32) &&& 0xFFFFFCFF = 0x8 ∧ (0x308 : Word32) &&& 0xFFFFFCFF = 0x8) ∧
    (0x408 : Word32).extractLsb' 0 8 = 0x08 ∧ (0x408 : Word32) &&& 0xFFFFFCFF ≠ 0x8 := by decide

theorem witness_ResetState : ReadsGenerator .step ∧ ReadsGenerator .draw ∧ ReadsGenerator .mix ∧ ReadsGenerator (.jump 0) := by
  decide

theorem witness_StatusWord : IllegalWord 0xA ∧ (ReadsGenerator .mix ∧ State.reset.stateValid = false) ∧
    decode ⟨2, 0, 0⟩ ≠ .ok .clrst := by decide

theorem witness_RejectionTouchesOneStatusBit : IllegalWord 0xFF ∧ ReadsGenerator .draw ∧ State.reset.stateValid = false := by
  decide

theorem witness_IllCause : (live.status.ill = false ∧ completes (perform ⟨0x102, 0, 0⟩ live)) ∧
    IllegalWord 0x0A ∧ IllegalWord 0x102 := by decide

theorem witness_NostCause : (State.reset.status.nost = false ∧ completes (perform ⟨2, 0, 0⟩ State.reset)) ∧
    (¬ ReadsGenerator .seedInit ∧ Instr.seedInit ≠ .clrst) ∧
    ReadsGenerator .step ∧ ReadsGenerator (.jump 1) ∧ State.reset.stateValid = false := by decide

theorem witness_CheckOrder : IllegalWord 0x102 ∧
    (decode ⟨2, 0, 0⟩ = .ok .step ∧ ReadsGenerator .step ∧ State.reset.stateValid = false) ∧
    (decode ⟨2, 0, 0⟩ = .ok .step ∧ (ReadsGenerator .step → live.stateValid = true) ∧ Instr.step ≠ .clrst) ∧
    live.status = ⟨false, false⟩ ∧ completes (perform ⟨2, 0, 0⟩ live) := by decide

theorem witness_StickyStatus :
    (decode ⟨2, 0, 0⟩ ≠ .ok .clrst ∧ completes (perform ⟨2, 0, 0⟩ { live with status := ⟨true, true⟩ })) ∧
    (IllegalWord 0x102 ∧ (live.reject .ill).status.ill = true) ∧
    ReadsGenerator .mix ∧ (State.reset.reject .nost).stateValid = false ∧
    (State.reset.reject .nost).status.nost = true := by decide

theorem witness_EveryOperandAccepted : (ReadsGenerator .draw → live.stateValid = true) ∧ Instr.draw ≠ .clrst ∧
    (ReadsGenerator .seedInit → State.reset.stateValid = true) := by decide

theorem witness_OnlyWritersChangeRegisters : completes (exec .draw live) ∧ completes (exec .draw State.reset) ∧
    completes (exec (.load .narrow 0 0) live) ∧ completes (exec (.seedAbsorb 8 1) live) ∧
    ¬ ReadsGenerator (.seedFinal .wide none) ∧
    (∀ n x, Instr.seedInit ≠ .seedAbsorb n x) ∧ (∀ v sel, Instr.seedInit ≠ .seedFinal v sel) :=
  ⟨by decide, by decide, by decide, by decide, by decide, nofun, nofun⟩

theorem witness_ConstructionFlag : Constructs (.load .wide c0 s0) ∧ Constructs (.seedFinal .narrow none) ∧ ¬ Constructs .draw ∧
    ReadsGenerator .draw ∧ State.reset.stateValid = false := by decide

theorem witness_OutHoldsLastWord :
    (completes (exec (.jump 0) live) ∧ Instr.jump 0 ≠ .draw ∧ Instr.jump 0 ≠ .mix) ∧
    (∀ i ∈ [Instr.load .wide c0 s0, .step], i ≠ .draw ∧ i ≠ .mix) ∧
    completes (execAll [.load .wide c0 s0, .step] State.reset) := by decide

theorem witness_AbsorberIsolated :
    (¬ IsSeeding .draw ∧ completes (exec .draw live)) ∧
    IsSeeding (.seedAbsorb 8 1) ∧ ¬ Constructs (.seedAbsorb 8 1) ∧ completes (exec (.seedAbsorb 8 1) live) := by decide

/-- Two narrow selectors that differ in SELECTOR[127:64] and have one increment. -/
theorem witness_ReferenceIncrement : Config.reference.inc .narrow 5 = Config.reference.inc .narrow 0x10000000000000005 := by
  decide

theorem witness_FullPeriod : config.MultiplierOk ∧ (1 : Word128).getLsbD 0 = true ∧
    (BitVec.allOnes 128).getLsbD 0 = true := ⟨rfl, by decide, by decide⟩

/-- e = 2^127 needs all 128 rounds, e = 1 one, e = 0 none. -/
theorem witness_PowerIsIteratedComposition : ((BitVec.ofNat 128 (2 ^ 127)).toNat < 2 ^ 128 ∧ 128 ≤ 128) ∧
    (1 : Word128).toNat < 2 ^ 1 ∧ (0 : Word128).toNat < 2 ^ 0 := by decide

theorem witness_SignedCount : ((-(2 ^ 127) : Int) ≤ -(2 ^ 127) ∧ (-(2 ^ 127) : Int) < 2 ^ 127 ∧ (-(2 ^ 127) : Int) < 0) ∧
    ((-(2 ^ 127) : Int) ≤ 2 ^ 127 - 1 ∧ (2 ^ 127 - 1 : Int) < 2 ^ 127) ∧ 2 ^ 127 ≤ 2 ^ 127 ∧ live.stateValid = true := by
  decide

theorem witness_JumpEqualsIteratedSteps : live.stateValid = true ∧ (made .narrow 0 0).stateValid = true := by decide

theorem witness_JumpLaws : live.stateValid = true ∧
    (BitVec.ofNat 128 (2 ^ 127)).toNat + (BitVec.ofNat 128 (2 ^ 127)).toNat = 2 ^ 128 ∧ 2 ^ 128 ∣ 2 ^ 128 :=
  ⟨by decide, by decide, dvd_rfl⟩

/-- A wide state with SELECTOR[127:64] = 0, H9's state, H1's state, and a pair of selectors. -/
theorem witness_FoldedSelectorBits :
    ((made .wide c0 5).stateValid = true ∧ (made .wide c0 5).variant = .wide ∧
      (made .wide c0 5).selector.extractLsb' 64 64 = 0) ∧
    ((made .wide 1 0x1ffffffffffffffff).stateValid = true ∧
      (made .wide 1 0x1ffffffffffffffff).counter.extractLsb' 64 64 = 0 ∧
      (made .wide 1 0x1ffffffffffffffff).counter.extractLsb' 0 64 =
        (made .wide 1 0x1ffffffffffffffff).selector.extractLsb' 64 64) ∧
    ((made .narrow 0 5).stateValid = true ∧ (made .narrow 0 5).counter.extractLsb' 64 64 = 0 ∧
      (made .narrow 0 5).counter.extractLsb' 0 64 = 0) ∧
    Config.reference.inc .wide s0 = Config.reference.inc .wide s0 ∧
      s0.extractLsb' 64 64 = s0.extractLsb' 64 64 := by decide

/-- Nine bytes make two chunks: the first is not the last and has 8 bytes, the last has one. -/
theorem witness_CanonicalChunking :
    (0 < (9 + 7) / 8 ∧ 0 + 1 < (9 + 7) / 8 ∧ 7 < min 8 (9 - 8 * 0)) ∧
    1 < (9 + 7) / 8 ∧ 1 + 1 = (9 + 7) / 8 ∧ 0 < min 8 (9 - 8 * 1) := by decide

theorem witness_RawStateLayout : ((made .narrow c0 5).variant = .narrow ∧ 15 < 16 ∧ 7 < 8) ∧ live.variant = .wide := by decide

/-- Lengths one off; the last byte of each selector; a wide and a narrow state. -/
theorem witness_RawStateRoundTrip :
    ((List.replicate 25 (0xff : Byte)).length ≠ 24 ∧ (List.replicate 31 (0xff : Byte)).length ≠ 32) ∧
    ((List.replicate 24 (0xff : Byte)).length = 24 ∧ 16 + 7 < 24) ∧
    ((List.replicate 32 (0xff : Byte)).length = 32 ∧ 16 + 15 < 32) ∧ NarrowSelectorZero live ∧
    NarrowSelectorZero (made .narrow c0 5) := by decide

theorem witness_CloneCopiesState : (live.stateValid = true ∧ NarrowSelectorZero live) ∧
    ((made .narrow c0 5).stateValid = true ∧ NarrowSelectorZero (made .narrow c0 5)) ∧
    State.reset.stateValid = false := by decide

/-- Two equal generator states with different OUT, under a list with a DRAW; and two states that differ in VARIANT. -/
theorem witness_EqualStatesStayEqual :
    ((∀ i ∈ [Instr.step, .draw, .jump 5], ReadsGenerator i) ∧ live.stateValid = true ∧
      { live with out := 7 }.stateValid = true ∧ live.sameGenerator { live with out := 7 } = true ∧
      Instr.draw ∈ [Instr.step, .draw, .jump 5]) ∧
    (made .wide c0 5).variant ≠ (made .narrow c0 5).variant := by decide

/-- Selectors that differ above bit 63 for a narrow LOAD; for a wide one they are equal. -/
theorem witness_LoadDeterministic :
    (5 : Word128).extractLsb' 0 64 = (0xF0000000000000000000000000000005 : Word128).extractLsb' 0 64 ∧ s0 = s0 := by decide

end Sys2Proof.Tests
end

section
/-! PROOFS. The reference configuration (00_scope.md R10): what its increment, its hashes and its seeder constants are. -/

namespace Sys2Proof

/-- The reference increment in both variants (R120). -/
theorem reference_inc (s : Word128) :
    Config.reference.inc .narrow s = ((s.extractLsb' 0 64).setWidth 128 <<< 1) ||| 1 ∧
    Config.reference.inc .wide s = (s <<< 1) ||| 1 := ⟨rfl, rfl⟩

/-- The reference narrow hash on the two halves of the counter (R142). -/
theorem reference_hashNarrow (c : Word128) :
    Config.reference.hashNarrow c = fmix64 (c.extractLsb' 64 64 ^^^ fmix64 (c.extractLsb' 0 64)) := rfl

/-- The reference wide hash folds `t` into the low half of the counter (R143). -/
theorem reference_hashWide (c : Word128) (t : Word64) :
    Config.reference.hashWide c t = fmix64 (c.extractLsb' 64 64 ^^^ fmix64 (c.extractLsb' 0 64 ^^^ t)) := rfl

/-- Folding 0 into the low half leaves it, so R143 at `t = 0` is R142. -/
theorem reference_hashWide_zero (c : Word128) : Config.reference.hashWide c 0 = Config.reference.hashNarrow c := by
  rw [reference_hashWide, reference_hashNarrow, BitVec.ofNat_eq_ofNat, BitVec.xor_zero]

/-- K1, K2 and K3 are K0 times 2, 3 and 4, mod 2^64 (R181). -/
theorem reference_seedK_eq_mul_seedK0 :
    Config.reference.seedK1 = 2 * Config.reference.seedK0 ∧ Config.reference.seedK2 = 3 * Config.reference.seedK0 ∧
    Config.reference.seedK3 = 4 * Config.reference.seedK0 := by decide

/-- Settles O50: the literal parameters are the record's fields; the increment, the hashes and the multiples of K0 are the
lemmas above. -/
theorem referenceConfiguration : Obligations.ReferenceConfiguration :=
  ⟨rfl, rfl, rfl, rfl, reference_inc,
    fun c t => ⟨reference_hashNarrow c, reference_hashWide c t, reference_hashWide_zero c⟩,
    rfl, rfl, rfl, rfl, rfl, rfl, reference_seedK_eq_mul_seedK0⟩

end Sys2Proof
end

section
/-! PROOFS. The registers (10_state.md): the frame of every command, what a command reads, and with them the rules on
SELECTOR, STATE_VALID, OUT and STATUS. -/

namespace Sys2Proof.Machine

/-! ### Every command completes -/

theorem State.whenConstructed_completes (s : State) (f : State → State) : ∃ t, s.whenConstructed f = .next t := by
  cases hv : s.stateValid with
  | false => exact ⟨_, State.whenConstructed_of_not_valid hv⟩
  | true => exact ⟨_, State.whenConstructed_of_valid hv⟩

theorem exec_completes (i : Instr) (s : State) : ∃ t, exec i s = .next t := by
  cases i with
  | step | draw | mix | jump =>
    simp only [exec_step, exec_draw, exec_mix, exec_jump, State.whenConstructed_completes]
  | nop | load | seedInit | seedAbsorb | seedFinal | clrst => exact ⟨_, rfl⟩

theorem perform_completes (c : Command) (s : State) : ∃ t, perform c s = .next t := by
  cases hd : decode c with
  | error e => exact ⟨_, perform_of_error hd s⟩
  | ok i => rw [perform_of_ok hd]; exact exec_completes i s

/-- While STATE_VALID = 0 a command that reads the generator state is rejected (R25). -/
theorem exec_of_not_valid {i : Instr} {s : State} (hi : ReadsGenerator i) (hv : s.stateValid = false) :
    exec i s = .next (s.reject .nost) := by
  cases i with
  | step | draw | mix | jump => simp [hv]
  | nop | load | seedInit | seedAbsorb | seedFinal | clrst => nomatch hi

/-! ### The frame of a command (R20, column 'written by') -/

/-- Between `s` and `t` only registers that R20 lets `i` write have changed (STATUS also by a rejection with NOST). -/
structure Frame (i : Instr) (s t : State) : Prop where
  counter : i ≠ .step → i ≠ .draw → (∀ e, i ≠ .jump e) → ¬ Constructs i → t.counter = s.counter
  selector : ¬ Constructs i → t.selector = s.selector
  variant : ¬ Constructs i → t.variant = s.variant
  stateValid : ¬ Constructs i → t.stateValid = s.stateValid
  out : i ≠ .draw → i ≠ .mix → t.out = s.out
  status : i ≠ .clrst → ¬ (ReadsGenerator i ∧ s.stateValid = false) → t.status = s.status
  absorber : ¬ IsSeeding i → t.sa = s.sa ∧ t.sb = s.sb ∧ t.sl = s.sl

theorem exec_frame {i : Instr} {s t : State} (h : exec i s = .next t) : Frame i s t := by
  rcases exec_cases h with ⟨rfl, rfl⟩ | ⟨v, c, sel, rfl, rfl⟩ | ⟨rfl, hv, rfl⟩ | ⟨rfl, hv, rfl⟩ | ⟨rfl, hv, rfl⟩ |
    ⟨e, rfl, hv, rfl⟩ | ⟨rfl, rfl⟩ | ⟨n, x, rfl, rfl⟩ | ⟨v, sel, rfl, rfl⟩ | ⟨rfl, rfl⟩ | ⟨hr, hv, rfl⟩ <;>
  constructor <;> simp_all [Instr.constructs, Instr.isSeeding]

/-- The frame read backwards, from a changed register to the commands R20 names as its writers. -/
theorem Frame.writer {i : Instr} {s t : State} (h : Frame i s t) :
    (t.counter ≠ s.counter → i = .step ∨ i = .draw ∨ (∃ e, i = .jump e) ∨ Constructs i) ∧
    (t.selector ≠ s.selector → Constructs i) ∧
    (t.variant ≠ s.variant → Constructs i) ∧
    (t.stateValid ≠ s.stateValid → Constructs i) ∧
    (t.out ≠ s.out → i = .draw ∨ i = .mix) ∧
    (t.status ≠ s.status → i = .clrst ∨ (ReadsGenerator i ∧ s.stateValid = false)) ∧
    (t.sa ≠ s.sa ∨ t.sb ≠ s.sb ∨ t.sl ≠ s.sl → IsSeeding i) := by
  obtain ⟨hc, hsel, hvar, hval, hout, hst, habs⟩ := h
  refine ⟨?_, not_imp_comm.mp hsel, not_imp_comm.mp hvar, not_imp_comm.mp hval, ?_, ?_, ?_⟩
  · contrapose!; exact fun ⟨hs, hd, hj, hi⟩ => hc hs hd hj hi
  · contrapose!; exact fun ⟨hd, hm⟩ => hout hd hm
  · contrapose!; exact fun ⟨hi, hr⟩ => hst hi fun ⟨hg, hv⟩ => hr hg hv
  · contrapose!; exact habs

/-! ### What a command reads (R20, column 'read by') -/

/-- Two states that agree on STATE_VALID pass the guard together, so a relation that the operation and the rejection keep
holds between what the guarded command leaves of them. -/
theorem State.whenConstructed_related {P : State → State → Prop} {s s' : State} {f : State → State}
    (hv : s'.stateValid = s.stateValid) (hf : P (f s) (f s')) (hr : P (s.reject .nost) (s'.reject .nost)) :
    ∃ t u, s.whenConstructed f = .next t ∧ s'.whenConstructed f = .next u ∧ P t u := by
  cases h : s.stateValid with
  | false => exact ⟨_, _, State.whenConstructed_of_not_valid h, State.whenConstructed_of_not_valid (hv.trans h), hr⟩
  | true => exact ⟨_, _, State.whenConstructed_of_valid h, State.whenConstructed_of_valid (hv.trans h), hf⟩

theorem exec_ignores_generator {i : Instr} (hi : ¬ ReadsGenerator i) (s : State) (c sel : Word128) (v : Variant)
    (b : Bool) : ∃ t u,
    exec i s = .next t ∧ exec i { s with counter := c, selector := sel, variant := v, stateValid := b } = .next u ∧
    { u with counter := t.counter, selector := t.selector, variant := t.variant, stateValid := t.stateValid } = t := by
  cases i with
  | step | draw | mix | jump => exact absurd rfl hi
  | nop | load | seedInit | seedAbsorb | seedFinal | clrst => exact ⟨_, _, rfl, rfl, rfl⟩

theorem exec_ignores_out_status (i : Instr) (s : State) (h : Word64) (st : Status) : ∃ t u,
    exec i s = .next t ∧ exec i { s with out := h, status := st } = .next u ∧
    { u with out := t.out, status := t.status } = t := by
  cases i with
  | step | draw | mix | jump =>
    simp only [exec_step, exec_draw, exec_mix, exec_jump]
    exact State.whenConstructed_related rfl rfl rfl
  | nop | load | seedInit | seedAbsorb | seedFinal | clrst => exact ⟨_, _, rfl, rfl, rfl⟩

theorem exec_ignores_absorber {i : Instr} (ha : ∀ n x, i ≠ .seedAbsorb n x) (hf : ∀ v sel, i ≠ .seedFinal v sel)
    (s : State) (sa sb sl : Word64) : ∃ t u,
    exec i s = .next t ∧ exec i { s with sa := sa, sb := sb, sl := sl } = .next u ∧
    { u with sa := t.sa, sb := t.sb, sl := t.sl } = t := by
  cases i with
  | step | draw | mix | jump =>
    simp only [exec_step, exec_draw, exec_mix, exec_jump]
    exact State.whenConstructed_related rfl rfl rfl
  | nop | load | seedInit | clrst => exact ⟨_, _, rfl, rfl, rfl⟩
  | seedAbsorb n x => exact absurd rfl (ha n x)
  | seedFinal v sel => exact absurd rfl (hf v sel)

/-- Settles O35: writers by the frame, readers by the three lemmas above; the reset values and the ports are the
definitions'. -/
theorem onlyWritersChangeRegisters : Obligations.OnlyWritersChangeRegisters :=
  ⟨fun _ _ _ h => (exec_frame h).writer, ⟨rfl, rfl, rfl, rfl, rfl, rfl, rfl, rfl, rfl⟩,
    fun _ s c sel v b hi => exec_ignores_generator hi s c sel v b, exec_ignores_out_status,
    fun _ s sa sb sl ha hf => exec_ignores_absorber ha hf s sa sb sl, fun _ _ _ _ => rfl⟩

/-! ### STATE_VALID (R25) -/

theorem exec_constructs_sets_stateValid {i : Instr} (hi : Constructs i) (s : State) :
    ∃ t, exec i s = .next t ∧ t.stateValid = true := by
  cases i with
  | load | seedFinal => exact ⟨_, rfl, rfl⟩
  | nop | step | draw | mix | jump | seedInit | seedAbsorb | clrst => nomatch hi

/-- Settles O36: reset and the constructing commands by their definitions, the others by the frame, and the rejection of
the commands that read the generator state. -/
theorem constructionFlag : Obligations.ConstructionFlag := by
  refine ⟨fun _ _ => rfl, fun i s hi => exec_constructs_sets_stateValid hi s, fun i s hi => ?_,
    fun i s hi hv => exec_of_not_valid hi hv⟩
  obtain ⟨t, ht⟩ := exec_completes i s
  exact ⟨t, ht, (exec_frame ht).stateValid hi⟩

/-! ### OUT (R26) -/

theorem execAll_keeps_out {is : List Instr} {s t : State} (his : ∀ i ∈ is, i ≠ .draw ∧ i ≠ .mix)
    (h : execAll is s = .next t) : t.out = s.out := by
  induction is generalizing s with
  | nil => cases h; rfl
  | cons i is ih =>
    obtain ⟨u, hu⟩ := exec_completes i s
    rw [execAll_cons hu] at h
    obtain ⟨⟨hd, hm⟩, his⟩ := List.forall_mem_cons.mp his
    exact (ih his h).trans ((exec_frame hu).out hd hm)

/-- Settles O37: OUT's frame, and its induction over a list of commands from the reset value 0. -/
theorem outHoldsLastWord : Obligations.OutHoldsLastWord :=
  ⟨fun _ _ _ h => (exec_frame h).out, rfl, fun _ => rfl, fun _ _ his h => execAll_keeps_out his h⟩

/-! ### The narrow selector (R23) -/

@[simp] theorem hi64_selectorOperand_narrow (x : Word128) : hi64 (selectorOperand .narrow x) = 0 := hi64_zext128 _

@[simp] theorem State.hi64_seedSelector_narrow (s : State) (k : Config) (sel : Option Word128) :
    hi64 (s.seedSelector k .narrow sel) = 0 := by
  cases sel with
  | none => exact hi64_zext128 _
  | some opb => exact hi64_selectorOperand_narrow opb

theorem exec_keeps_narrowSelectorZero {i : Instr} {s t : State} (hs : NarrowSelectorZero s)
    (h : exec i s = .next t) : NarrowSelectorZero t := by
  by_cases hi : Constructs i
  · cases i with
    | load v c sel => cases h; rintro rfl; exact hi64_selectorOperand_narrow sel
    | seedFinal v sel => cases h; rintro rfl; exact s.hi64_seedSelector_narrow config sel
    | nop | step | draw | mix | jump | seedInit | seedAbsorb | clrst => nomatch hi
  · intro hv
    rw [(exec_frame h).selector hi]
    exact hs ((exec_frame h).variant hi ▸ hv)

theorem perform_keeps_narrowSelectorZero {c : Command} {s t : State} (hs : NarrowSelectorZero s)
    (h : perform c s = .next t) : NarrowSelectorZero t := by
  rcases perform_cases h with ⟨_, rfl⟩ | ⟨i, _, hi⟩
  · exact hs
  · exact exec_keeps_narrowSelectorZero hs hi

/-- Two words with a zero upper half and one low half are one word. -/
theorem eq_of_lo64_eq_of_hi64_eq_zero {x y : Word128} (hx : hi64 x = 0) (hy : hi64 y = 0) (h : lo64 x = lo64 y) :
    x = y := by
  rw [← zext128_lo64_of_hi64_eq_zero hx, h, zext128_lo64_of_hi64_eq_zero hy]

/-- Settles O7: kept by every command, written by narrow LOAD and SEED_FINAL, and the low half then determines SELECTOR. -/
theorem narrowSelectorUpperHalfZero : Obligations.NarrowSelectorUpperHalfZero :=
  ⟨fun _ => by decide, fun _ _ _ => perform_keeps_narrowSelectorZero, fun _ _ _ => ⟨_, rfl, rfl⟩,
    fun sel s => ⟨_, rfl, (zext128_lo64_of_hi64_eq_zero (s.hi64_seedSelector_narrow config sel)).symm⟩,
    fun _ _ hs ht hsv htv h => eq_of_lo64_eq_of_hi64_eq_zero (hs hsv) (ht htv) h⟩

end Sys2Proof.Machine
end

section
/-! PROOFS. The STATUS word (10_state.md R27): an illegal word is decoded as none (30_encoding.md R76, R78), a cause is one
bit of the word, and no command but CLRST takes a bit away. -/

namespace Sys2Proof

open Sys2Proof.Machine

/-! ### An illegal word is no command -/

/-- No opcode's used bits hold a bit that R76 (b) reserves for it. -/
theorem usedBits_eq_some {op : BitVec 8} {used : Word32} (h : usedBits op = some used) :
    op.toNat < 0x0A ∧ used.extractLsb' 13 19 = 0 ∧ (used.getLsbD 8 = true → op.toNat = 0x01 ∨ op.toNat = 0x08) ∧
    (used.getLsbD 9 = true → op.toNat = 0x08) ∧ (used.extractLsb' 10 3 ≠ 0 → op.toNat = 0x07) := by
  unfold usedBits at h
  split at h <;> cases h <;> simp_all

/-- A word without stray bits has its bits above OP among the used ones. -/
theorem getLsbD_used_of_strayBits_eq_zero {w used : Word32} (h : strayBits w used = 0#32) {i : Nat} (h8 : 8 ≤ i)
    (hw : w.getLsbD i = true) : used.getLsbD i = true := by
  have hi : i < 32 := BitVec.lt_of_getLsbD hw
  have hb := congrArg (·.getLsbD i) h
  have hmask : (0xFFFFFF00#32).getLsbD i = true := by interval_cases i <;> rfl
  simpa [strayBits, hw, hi, hmask] using hb

/-- A field above OP that is not 0 meets the used bits, when no bit is stray. -/
theorem extractLsb'_used_ne_zero {w used : Word32} (h : strayBits w used = 0#32) {i n : Nat} (h8 : 8 ≤ i)
    (hw : w.extractLsb' i n ≠ 0) : used.extractLsb' i n ≠ 0 := by
  intro hu
  refine hw (BitVec.eq_of_getLsbD_eq fun j hj => ?_)
  have hused : used.getLsbD (i + j) = false := by simpa [hj] using congrArg (·.getLsbD j) hu
  have hword : w.getLsbD (i + j) = false :=
    Bool.eq_false_iff.mpr fun hb =>
      Bool.eq_false_iff.mp hused (getLsbD_used_of_strayBits_eq_zero h (Nat.le_add_right_of_le h8) hb)
  simp [hword]

theorem not_illegalWord_of_decode_eq_ok {c : Command} {i : Instr} (h : decode c = .ok i) : ¬ IllegalWord c.cmd := by
  obtain ⟨used, hu, hs, _⟩ := decode_eq_ok_iff.mp h
  obtain ⟨hop, hres, hv, hsel, hnb⟩ := usedBits_eq_some hu
  rintro (ho | hr | ⟨h8, h1, hf⟩ | ⟨h9, hf⟩ | ⟨hn, hf⟩)
  · exact absurd hop (not_lt.mpr ho)
  · exact extractLsb'_used_ne_zero hs (by decide) hr hres
  · exact (hv (getLsbD_used_of_strayBits_eq_zero hs (by decide) h8)).elim h1 hf
  · exact hf (hsel (getLsbD_used_of_strayBits_eq_zero hs (by decide) h9))
  · exact hf (hnb (extractLsb'_used_ne_zero hs (by decide) hn))

theorem perform_of_illegalWord {c : Command} (h : IllegalWord c.cmd) (s : State) :
    perform c s = .next (s.reject .ill) := by
  cases hd : decode c with
  | error e => exact perform_of_error hd s
  | ok i => exact absurd h (not_illegalWord_of_decode_eq_ok hd)

namespace Machine

/-! ### The word and its two bits -/

/-- Bits 31:2 of the word have no storage. -/
theorem Status.word_reserved (st : Status) : st.word.extractLsb' 2 30 = 0 := by
  obtain ⟨i, n⟩ := st
  cases i <;> cases n <;> decide

theorem Status.word_clear : Status.clear.word = 0 := rfl

/-- Raising a cause sets the bit of its code and no other. -/
theorem Status.word_raise (st : Status) (cause : Cause) :
    (st.raise cause).word = st.word ||| BitVec.twoPow 32 cause.code := by
  obtain ⟨i, n⟩ := st
  cases cause <;> cases i <;> cases n <;> decide

theorem Status.word_raise_and (st : Status) (cause : Cause) : (st.raise cause).word &&& st.word = st.word := by
  rw [Status.word_raise]
  ext i
  simp +contextual

/-- Only CLRST takes STATUS elsewhere than to itself or to one more cause. -/
theorem perform_status {c : Command} {s t : State} (hc : decode c ≠ .ok .clrst) (h : perform c s = .next t) :
    t.status = s.status ∨ ∃ cause, t.status = s.status.raise cause := by
  rcases perform_cases h with ⟨_, rfl⟩ | ⟨i, hd, hi⟩
  · exact .inr ⟨.ill, rfl⟩
  · by_cases hr : ReadsGenerator i ∧ s.stateValid = false
    · obtain ⟨hg, hv⟩ := hr
      rw [exec_of_not_valid hg hv] at hi
      cases hi
      exact .inr ⟨.nost, rfl⟩
    · exact .inl ((exec_frame hi).status (fun hn => hc (hn ▸ hd)) hr)

/-- Settles O28: an illegal word raises ILL and an unconstructed generator command NOST, each one bit of the word; every
other command but CLRST leaves STATUS. -/
theorem statusWord : Obligations.StatusWord := by
  refine ⟨fun s => s.status.word_reserved, rfl, fun c s h => ⟨_, perform_of_illegalWord h s, s.status.word_raise .ill⟩,
    fun i s hi hv => ⟨_, exec_of_not_valid hi hv, s.status.word_raise .nost⟩, fun c s hc => ?_,
    fun s => ⟨_, rfl, Status.word_clear⟩, fun _ _ => Status.word_clear⟩
  obtain ⟨t, ht⟩ := perform_completes c s
  refine ⟨t, ht, ?_⟩
  simp only [State.ports]
  rcases perform_status hc ht with h | ⟨cause, h⟩ <;> rw [h]
  · exact BitVec.and_self
  · exact s.status.word_raise_and cause

end Machine
end Sys2Proof
end

section
/-! PROOFS. The encoding (30_encoding.md): a word decodes exactly when it is not illegal, equivalently when it matches the
row of the command it decodes to; what its fields V, S and NB stand for; and which operand bits have an effect. -/

namespace Sys2Proof

open Sys2Proof.Machine

/-! ### Legal words (R76, R78) -/

theorem usedBits_of_lt {op : BitVec 8} (h : op.toNat < 0x0A) : ∃ used, usedBits op = some used := by
  unfold usedBits
  interval_cases op.toNat <;> exact ⟨_, rfl⟩

/-- An opcode uses every field that R71, R72 and R74 give it. -/
theorem usedBits_holds_fields {op : BitVec 8} {used : Word32} (h : usedBits op = some used) :
    (op.toNat = 0x01 ∨ op.toNat = 0x08 → used.getLsbD 8 = true) ∧ (op.toNat = 0x08 → used.getLsbD 9 = true) ∧
    (op.toNat = 0x07 → ∀ j < 3, used.getLsbD (10 + j) = true) := by
  unfold usedBits at h
  split at h <;> cases h <;> simp_all
  decide

/-- The converse of `getLsbD_used_of_strayBits_eq_zero`. -/
theorem strayBits_eq_zero {w used : Word32} (h : ∀ i, 8 ≤ i → w.getLsbD i = true → used.getLsbD i = true) :
    strayBits w used = 0#32 := by
  refine BitVec.eq_of_getLsbD_eq fun i hi => ?_
  by_cases h8 : 8 ≤ i
  · cases hw : w.getLsbD i <;> simp [strayBits, hw, h i h8]
  · have hmask : (0xFFFFFF00#32).getLsbD i = false := by interval_cases i <;> rfl
    simp [strayBits, hmask]

theorem getLsbD_of_extractLsb'_eq_zero {w : Word32} {start len : Nat} (h : w.extractLsb' start len = 0) {j : Nat}
    (hj : j < len) : w.getLsbD (start + j) = false := by
  simpa [hj] using congrArg (·.getLsbD j) h

/-- A word that R76 does not call illegal has its bits above OP among those its opcode uses. -/
theorem strayBits_eq_zero_of_not_illegalWord {w used : Word32} (hw : ¬ IllegalWord w)
    (h : usedBits (opField w) = some used) : strayBits w used = 0#32 := by
  simp only [IllegalWord, not_or, not_and, not_not] at hw
  obtain ⟨-, hres, hv, hs, hnb⟩ := hw
  obtain ⟨uv, us, unb⟩ := usedBits_holds_fields h
  refine strayBits_eq_zero fun i h8 hb => ?_
  obtain rfl | rfl | hi | hi : i = 8 ∨ i = 9 ∨ (10 ≤ i ∧ i < 13) ∨ 13 ≤ i := by omega
  · exact uv (or_iff_not_imp_left.mpr (hv hb))
  · exact us (hs hb)
  · obtain ⟨j, rfl⟩ := Nat.exists_eq_add_of_le hi.1
    have hj : j < 3 := by omega
    refine unb (hnb fun h0 => ?_) j hj
    simp [getLsbD_of_extractLsb'_eq_zero h0 hj] at hb
  · obtain ⟨j, rfl⟩ := Nat.exists_eq_add_of_le hi
    have hj : j < 19 := by have := BitVec.lt_of_getLsbD hb; omega
    simp [getLsbD_of_extractLsb'_eq_zero hres hj] at hb

theorem decode_of_not_illegalWord {w : Word32} (h : ¬ IllegalWord w) (a b : Word128) :
    decode ⟨w, a, b⟩ = instrOf ⟨w, a, b⟩ := by
  have hop : (opField w).toNat < 0x0A := not_le.mp fun ho => h (.inl ho)
  obtain ⟨used, hu⟩ := usedBits_of_lt hop
  simp [decode, hu, strayBits_eq_zero_of_not_illegalWord h hu]

theorem instrOf_of_lt {c : Command} (h : (opField c.cmd).toNat < 0x0A) : ∃ i, instrOf c = .ok i := by
  unfold instrOf
  interval_cases (opField c.cmd).toNat <;> exact ⟨_, rfl⟩

/-- The legal words are the ones that decode (R76). -/
theorem decode_eq_ok_iff_not_illegalWord {c : Command} : (∃ i, decode c = .ok i) ↔ ¬ IllegalWord c.cmd := by
  constructor
  · exact fun ⟨_, h⟩ => not_illegalWord_of_decode_eq_ok h
  · intro h
    rw [decode_of_not_illegalWord h c.opa c.opb]
    exact instrOf_of_lt (not_le.mp fun ho => h (.inl ho))

/-- The illegal words are the ones that do not decode (R76). -/
theorem decode_eq_error_iff_illegalWord {c : Command} : (∃ e, decode c = .error e) ↔ IllegalWord c.cmd := by
  rw [← not_iff_not, ← decode_eq_ok_iff_not_illegalWord]
  cases decode c <;> simp

/-! ### The match/mask table (R75) -/

/-- A word shows an opcode under a mask that covers OP exactly when OP is that opcode and no 1 above OP is under the
mask. -/
theorem and_mask_eq_iff {w mask : Word32} {op : BitVec 8} (hmask : ∀ i < 8, mask.getLsbD i = true) :
    w &&& mask = op.setWidth 32 ↔ opField w = op ∧ strayBits w (~~~mask) = 0#32 := by
  constructor
  · intro h
    have hbit (i : Nat) (hi : i < 32) : (w.getLsbD i && mask.getLsbD i) = op.getLsbD i := by
      simpa [hi] using congrArg (·.getLsbD i) h
    constructor
    · refine BitVec.eq_of_getLsbD_eq fun i hi => ?_
      simpa [opField, hi, hmask i hi] using hbit i (by omega)
    · refine strayBits_eq_zero fun i h8 hw => ?_
      have hi := BitVec.lt_of_getLsbD hw
      simpa [hi, hw, BitVec.getLsbD_of_ge op i h8] using hbit i hi
  · rintro ⟨rfl, hs⟩
    refine BitVec.eq_of_getLsbD_eq fun i hi => ?_
    by_cases h8 : i < 8
    · simp [opField, hi, h8, hmask i h8]
    · cases hw : w.getLsbD i with
      | false => simp [hw, h8, opField]
      | true => simpa [hi, hw, h8, opField] using getLsbD_used_of_strayBits_eq_zero hs (not_lt.mp h8) hw

/-- OP of an instruction's command (R75). -/
def Instr.opcode (i : Instr) : BitVec 8 := i.row.pattern.setWidth 8

/-- An instruction's row: its match is its opcode alone, and its mask covers OP and leaves out the bits its opcode uses. -/
theorem Instr.row_eq (i : Instr) : i.row.pattern = i.opcode.setWidth 32 ∧ (∀ j < 8, i.row.mask.getLsbD j = true) ∧
    usedBits i.opcode = some (~~~i.row.mask) := by
  cases i <;> dsimp only [opcode, row] <;> decide

theorem Instr.row_matches_iff {i : Instr} {w : Word32} :
    i.row.Matches w ↔ opField w = i.opcode ∧ strayBits w (~~~i.row.mask) = 0#32 := by
  obtain ⟨hpat, hmask, -⟩ := i.row_eq
  rw [OpcodeRow.Matches, hpat, and_mask_eq_iff hmask]

theorem opField_of_instrOf_eq_ok {c : Command} {i : Instr} (h : instrOf c = .ok i) : opField c.cmd = i.opcode := by
  unfold instrOf at h
  split at h <;> cases h <;> exact BitVec.eq_of_toNat_eq ‹_›

/-- A word decodes to a command exactly when it matches that command's row. -/
theorem decode_eq_ok_iff_matches {c : Command} {i : Instr} :
    decode c = .ok i ↔ i.row.Matches c.cmd ∧ instrOf c = .ok i := by
  obtain ⟨-, -, hused⟩ := i.row_eq
  rw [decode_eq_ok_iff, Instr.row_matches_iff]
  constructor
  · rintro ⟨used, hu, hs, hi⟩
    have hop := opField_of_instrOf_eq_ok hi
    rw [hop, hused, Option.some_inj] at hu
    exact ⟨⟨hop, hu ▸ hs⟩, hi⟩
  · rintro ⟨⟨hop, hs⟩, hi⟩
    exact ⟨_, hop ▸ hused, hs, hi⟩

/-! ### The command of each opcode (R71 to R73, R75) -/

section
variable {w : Word32} {a b : Word128}

theorem instrOf_nop (h : (opField w).toNat = 0x00) : instrOf ⟨w, a, b⟩ = .ok .nop := by simp [instrOf, h]

theorem instrOf_load (h : (opField w).toNat = 0x01) :
    instrOf ⟨w, a, b⟩ = .ok (.load (variantOfBit (vField w)) a b) := by simp [instrOf, h]

theorem instrOf_step (h : (opField w).toNat = 0x02) : instrOf ⟨w, a, b⟩ = .ok .step := by simp [instrOf, h]

theorem instrOf_draw (h : (opField w).toNat = 0x03) : instrOf ⟨w, a, b⟩ = .ok .draw := by simp [instrOf, h]

theorem instrOf_mix (h : (opField w).toNat = 0x04) : instrOf ⟨w, a, b⟩ = .ok .mix := by simp [instrOf, h]

theorem instrOf_jump (h : (opField w).toNat = 0x05) : instrOf ⟨w, a, b⟩ = .ok (.jump a) := by simp [instrOf, h]

theorem instrOf_seedInit (h : (opField w).toNat = 0x06) : instrOf ⟨w, a, b⟩ = .ok .seedInit := by simp [instrOf, h]

theorem instrOf_seedAbsorb (h : (opField w).toNat = 0x07) :
    instrOf ⟨w, a, b⟩ = .ok (.seedAbsorb ((nbField w).toNat + 1) a) := by simp [instrOf, h]

theorem instrOf_seedFinal (h : (opField w).toNat = 0x08) :
    instrOf ⟨w, a, b⟩ = .ok (.seedFinal (variantOfBit (vField w)) (if sField w then some b else none)) := by
  simp [instrOf, h]

theorem instrOf_clrst (h : (opField w).toNat = 0x09) : instrOf ⟨w, a, b⟩ = .ok .clrst := by simp [instrOf, h]

/-- Matching an instruction's row is decoding to it, when the instruction is what its opcode's words stand for. -/
theorem matches_iff_decode {i : Instr} (h : (opField w).toNat = i.opcode.toNat → instrOf ⟨w, a, b⟩ = .ok i) :
    i.row.Matches w ↔ decode ⟨w, a, b⟩ = .ok i := by
  rw [decode_eq_ok_iff_matches, iff_self_and]
  intro hm
  obtain ⟨hop, -⟩ := Instr.row_matches_iff.mp hm
  exact h (congrArg _ hop)

end

/-- Settles O9: each command's row decides which words decode to it, and a reserved opcode makes a word illegal. -/
theorem opcodeMap : Obligations.OpcodeMap := fun _ a _ =>
  ⟨matches_iff_decode (i := .nop) instrOf_nop, matches_iff_decode (i := .load _ _ _) instrOf_load,
    matches_iff_decode (i := .step) instrOf_step, matches_iff_decode (i := .draw) instrOf_draw,
    matches_iff_decode (i := .mix) instrOf_mix, matches_iff_decode (i := .jump a) instrOf_jump,
    matches_iff_decode (i := .seedInit) instrOf_seedInit, matches_iff_decode (i := .seedAbsorb _ _) instrOf_seedAbsorb,
    matches_iff_decode (i := .seedFinal _ _) instrOf_seedFinal, matches_iff_decode (i := .clrst) instrOf_clrst,
    fun h => decode_eq_error_iff_illegalWord.mpr (.inl h)⟩

/-! ### Illegal words (R76) -/

/-- The table's rows are the rows of the instructions. -/
theorem mem_opcodeTable_iff {r : OpcodeRow} : r ∈ opcodeTable ↔ ∃ i : Instr, i.row = r := by
  constructor
  · simp only [opcodeTable, List.mem_cons, List.not_mem_nil, or_false]
    rintro (rfl | rfl | rfl | rfl | rfl | rfl | rfl | rfl | rfl | rfl) <;> exact ⟨_, rfl⟩
  · rintro ⟨i, rfl⟩
    cases i <;> simp [opcodeTable, Instr.row]

/-- The words that decode are those that match a row of the table (R76). -/
theorem decode_eq_ok_iff_exists_row {c : Command} :
    (∃ i, decode c = .ok i) ↔ ∃ r ∈ opcodeTable, r.Matches c.cmd := by
  constructor
  · rintro ⟨i, hi⟩
    obtain ⟨hm, -⟩ := decode_eq_ok_iff_matches.mp hi
    exact ⟨i.row, mem_opcodeTable_iff.mpr ⟨i, rfl⟩, hm⟩
  · rintro ⟨r, hr, hm⟩
    obtain ⟨i, rfl⟩ := mem_opcodeTable_iff.mp hr
    obtain ⟨-, -, hused⟩ := i.row_eq
    obtain ⟨hop, hs⟩ := Instr.row_matches_iff.mp hm
    obtain ⟨hlt, -⟩ := usedBits_eq_some (hop ▸ hused)
    obtain ⟨j, hj⟩ := instrOf_of_lt hlt
    exact ⟨j, decode_eq_ok_iff.mpr ⟨_, hop ▸ hused, hs, hj⟩⟩

/-- Settles O8: a word is illegal when it does not decode, and it decodes when it matches a row; its effect is the rejection
with ILL. -/
theorem illegalWordRejected : Obligations.IllegalWordRejected := by
  refine fun w a b => ⟨decode_eq_error_iff_illegalWord, ?_, fun h => perform_of_illegalWord h⟩
  rw [← not_iff_not, ← decode_eq_ok_iff_not_illegalWord (c := ⟨w, a, b⟩), decode_eq_ok_iff_exists_row]
  simp

/-! ### The chunk length (R72) -/

/-- Settles O12: in a SEED_ABSORB word only NB is free, and any other opcode with NB set makes an illegal word. -/
theorem chunkLengthField : Obligations.ChunkLengthField := by
  refine ⟨fun w a b hop h0 => ?_, fun nb => ?_, fun n h1 h8 => ?_, rfl, fun w a b hop hnb => ?_⟩
  · have hstray : strayBits w 0x00001C00#32 = 0#32 := by rwa [strayBits, BitVec.and_assoc]
    exact decode_eq_ok_iff.mpr ⟨_, congrArg usedBits hop, hstray, instrOf_seedAbsorb (congrArg BitVec.toNat hop)⟩
  · have := nb.isLt
    omega
  · exact ⟨BitVec.ofNat 3 (n - 1), by rw [BitVec.toNat_ofNat]; omega⟩
  · exact decode_eq_error_iff_illegalWord.mpr (.inr (.inr (.inr (.inr ⟨hnb, fun h => hop (BitVec.eq_of_toNat_eq h)⟩))))

/-! ### The variant bit and the selector bit (R71, R74) -/

section
variable {w : Word32} (hw : ¬ IllegalWord w)
include hw

theorem perform_load (hop : (opField w).toNat = 0x01) (a b : Word128) (s : State) :
    perform ⟨w, a, b⟩ s = .next (s.construct (variantOfBit (vField w)) a (selectorOperand (variantOfBit (vField w)) b)) :=
  perform_of_ok ((decode_of_not_illegalWord hw a b).trans (instrOf_load hop)) s

theorem perform_seedAbsorb (hop : (opField w).toNat = 0x07) (a b : Word128) (s : State) :
    perform ⟨w, a, b⟩ s = .next (s.absorbed ((nbField w).toNat + 1) a) :=
  perform_of_ok ((decode_of_not_illegalWord hw a b).trans (instrOf_seedAbsorb hop)) s

theorem perform_seedFinal (hop : (opField w).toNat = 0x08) (a b : Word128) (s : State) :
    perform ⟨w, a, b⟩ s = .next (s.seeded config (variantOfBit (vField w)) (if sField w then some b else none)) :=
  perform_of_ok ((decode_of_not_illegalWord hw a b).trans (instrOf_seedFinal hop)) s

end

theorem selectorOperand_variantOfBit (v : Bool) (x : Word128) :
    selectorOperand (variantOfBit v) x = if v then x else (x.extractLsb' 0 64).setWidth 128 := by
  cases v <;> rfl

/-- The derived selector depends on the absorber alone (R185). -/
theorem Machine.State.derivedSelector_congr {r s : State} (ha : r.sa = s.sa) (hb : r.sb = s.sb) (hl : r.sl = s.sl)
    (k : Config) (v : Variant) : r.derivedSelector k v = s.derivedSelector k v := by
  cases v <;> simp [State.derivedSelector, State.finalWord, State.finalB, State.finalA, ha, hb, hl]

/-- Settles O13: what a legal LOAD and a legal SEED_FINAL leave, and the words R76 (b) calls illegal for V and for S. -/
theorem variantAndSelectorFields : Obligations.VariantAndSelectorFields := by
  refine ⟨fun w a b s hw hop => ?_, fun w a b s hw hop => ?_, fun w a b hv h1 h8 => ?_, fun w a b hs h8 => ?_⟩
  · rcases hop with hop | hop
    · exact ⟨_, perform_load hw (congrArg BitVec.toNat hop) a b s, rfl⟩
    · exact ⟨_, perform_seedFinal hw (congrArg BitVec.toNat hop) a b s, rfl⟩
  · refine ⟨_, perform_seedFinal hw (congrArg BitVec.toNat hop) a b s, fun hs => ?_, fun hs b' r ha hb hl => ?_⟩
    · simp only [sField, hs]
      exact selectorOperand_variantOfBit (vField w) b
    · refine ⟨_, perform_seedFinal hw (congrArg BitVec.toNat hop) a b' r, ?_⟩
      simp only [sField, hs]
      exact State.derivedSelector_congr ha hb hl config _
  · exact decode_eq_error_iff_illegalWord.mpr
      (.inr (.inr (.inl ⟨hv, fun h => h1 (BitVec.eq_of_toNat_eq h), fun h => h8 (BitVec.eq_of_toNat_eq h)⟩)))
  · exact decode_eq_error_iff_illegalWord.mpr (.inr (.inr (.inr (.inl ⟨hs, fun h => h8 (BitVec.eq_of_toNat_eq h)⟩))))

/-! ### Ignored operand bits (R73, R77) -/

theorem instrOf_eq_of_reads_no_operand {w : Word32} (a b a' b' : Word128) (h1 : (opField w).toNat ≠ 0x01)
    (h5 : (opField w).toNat ≠ 0x05) (h7 : (opField w).toNat ≠ 0x07) (h8 : (opField w).toNat ≠ 0x08) :
    instrOf ⟨w, a, b⟩ = instrOf ⟨w, a', b'⟩ := by
  simp only [instrOf]
  split <;> simp_all

/-- Two chunks that agree on the bytes absorbed are absorbed alike (R184). -/
theorem Machine.State.absorbed_congr {n : Nat} (hn : n ≤ 8) {x y : Word128}
    (h : x.toNat % 2 ^ (8 * n) = y.toNat % 2 ^ (8 * n)) (s : State) : s.absorbed n x = s.absorbed n y := by
  have hxy : chunkOperand n x = chunkOperand n y :=
    BitVec.eq_of_toNat_eq (by rw [chunkOperand_toNat hn, chunkOperand_toNat hn, h])
  rw [State.absorbed, hxy, State.absorbed]

/-- Two selector operands that agree on what the variant reads of OPB give one selector (R73). -/
theorem selectorOperand_congr {v : Bool} {x y : Word128}
    (h : if v then x = y else x.extractLsb' 0 64 = y.extractLsb' 0 64) :
    selectorOperand (variantOfBit v) x = selectorOperand (variantOfBit v) y := by
  rw [selectorOperand_variantOfBit, selectorOperand_variantOfBit]
  cases v <;> simp_all

/-- Two legal commands of one word that agree on the operand bits it reads are performed alike, by the opcode. -/
theorem perform_eq_of_operands_agree {w : Word32} (hw : ¬ IllegalWord w) {a b a' b' : Word128}
    (h : SameUsedBits ⟨w, a, b⟩ ⟨w, a', b'⟩) (s : State) : perform ⟨w, a, b⟩ s = perform ⟨w, a', b'⟩ s := by
  obtain ⟨-, ha, hchunk, hb⟩ := h
  have hsel (hr : (opField w).toNat = 0x01 ∨ ((opField w).toNat = 0x08 ∧ sField w = true)) :
      selectorOperand (variantOfBit (vField w)) b = selectorOperand (variantOfBit (vField w)) b' :=
    selectorOperand_congr (hb hr)
  by_cases h1 : (opField w).toNat = 0x01
  · rw [perform_load hw h1, perform_load hw h1, show a = a' from ha (.inl h1), hsel (.inl h1)]
  by_cases h7 : (opField w).toNat = 0x07
  · have hn : (nbField w).toNat + 1 ≤ 8 := (nbField w).isLt
    rw [perform_seedAbsorb hw h7, perform_seedAbsorb hw h7, State.absorbed_congr hn (hchunk h7)]
  by_cases h8 : (opField w).toNat = 0x08
  · rw [perform_seedFinal hw h8, perform_seedFinal hw h8]
    cases hs : sField w with
    | false => rfl
    | true => simp only [if_true, State.seeded, State.seedSelector, hsel (.inr ⟨h8, hs⟩)]
  have hd : decode ⟨w, a, b⟩ = decode ⟨w, a', b'⟩ := by
    rw [decode_of_not_illegalWord hw, decode_of_not_illegalWord hw]
    by_cases h5 : (opField w).toNat = 0x05
    · rw [show a = a' from ha (.inr h5), instrOf_jump h5, instrOf_jump h5]
    · exact instrOf_eq_of_reads_no_operand a b a' b' h1 h5 h7 h8
  rw [perform, hd, perform]

/-- Settles O14: an illegal word is rejected whatever its operands, and a legal one by `perform_eq_of_operands_agree`. -/
theorem ignoredOperandBits : Obligations.IgnoredOperandBits := by
  refine ⟨?_, fun w a b a' b' h => ?_⟩
  · rintro ⟨w, a, b⟩ ⟨_, a', b'⟩ s h
    have ⟨hcmd, _⟩ := h
    obtain rfl : w = _ := hcmd
    by_cases hw : IllegalWord w
    · rw [perform_of_illegalWord (c := ⟨w, a, b⟩) hw, perform_of_illegalWord (c := ⟨w, a', b'⟩) hw]
    · exact perform_eq_of_operands_agree hw h s
  · have hw : IllegalWord w := decode_eq_error_iff_illegalWord.mp h
    exact decode_eq_error_iff_illegalWord.mpr hw

end Sys2Proof
end

section
/-! PROOFS. The state model (41_statemodel.md): LOAD constructs a generator state from any operands (R100), and a word with
an assigned opcode that misses its command's row is rejected (30_encoding.md R75, R76). -/

namespace Sys2Proof

open Sys2Proof.Machine

/-- A word with an instruction's opcode that does not match the instruction's row has a stray bit, so it decodes to
nothing (R78). -/
theorem decode_of_not_matches {i : Instr} {c : Command} (hop : opField c.cmd = i.opcode) (h : ¬ i.row.Matches c.cmd) :
    ∃ e, decode c = .error e := by
  obtain ⟨-, -, hused⟩ := i.row_eq
  have hstray : strayBits c.cmd (~~~i.row.mask) ≠ 0#32 := fun h0 => h (Instr.row_matches_iff.mpr ⟨hop, h0⟩)
  rw [← hop] at hused
  exact ⟨_, by rw [decode, hused]; exact if_neg hstray⟩

theorem perform_of_not_matches {i : Instr} {c : Command} (hop : opField c.cmd = i.opcode) (h : ¬ i.row.Matches c.cmd)
    (s : State) : perform c s = .next (s.reject .ill) := by
  obtain ⟨_, he⟩ := decode_of_not_matches hop h
  exact perform_of_error he s

/-- Settles O18: LOAD is `State.construct` at the selector its variant reads, and its words are those of its row. -/
theorem loadCommand : Obligations.LoadCommand := by
  refine ⟨fun v c sel s => ?_, fun w a b h => ?_, fun w a b s hop h => ?_⟩
  · rw [exec_load]
    cases v <;> rfl
  · exact (matches_iff_decode (i := .load _ _ _) instrOf_load).mp h
  · exact perform_of_not_matches (i := .load .narrow a b) (c := ⟨w, a, b⟩) hop h s

end Sys2Proof
end

section
/-! PROOFS. The mixing primitive fmix64 (43_output_hash.md R144): each of its rounds, a xor with a right shift or a product
with an odd constant, is injective, hence so is the wide reference hash in what it folds in (R143). -/

namespace Sys2Proof

/-- A difference that survives its own right shift is 0. -/
theorem eq_zero_of_ushiftRight_eq_self {w n : Nat} (hn : 0 < n) {d : BitVec w} (h : d >>> n = d) : d = 0#w := by
  have hdiv : d.toNat / 2 ^ n = d.toNat := by simpa [Nat.shiftRight_eq_div_pow] using congrArg BitVec.toNat h
  by_contra hd
  have hpos : 0 < d.toNat := Nat.pos_of_ne_zero fun h0 => hd (BitVec.eq_of_toNat_eq h0)
  exact absurd hdiv (Nat.div_lt_self hpos (Nat.one_lt_two_pow hn.ne')).ne

theorem xor_ushiftRight_injective {w n : Nat} (hn : 0 < n) : Function.Injective fun z : BitVec w => z ^^^ (z >>> n) := by
  intro x y h
  change x ^^^ (x >>> n) = y ^^^ (y >>> n) at h
  have hd : (x ^^^ y) >>> n = x ^^^ y := by
    rw [BitVec.ushiftRight_xor_distrib, ← BitVec.xor_eq_zero_iff, ← BitVec.xor_eq_zero_iff.mpr h]
    ac_rfl
  exact BitVec.xor_eq_zero_iff.mp (eq_zero_of_ushiftRight_eq_self hn hd)

/-- The two constants of R144 are odd, hence units mod 2^64: their inverses are written out. -/
theorem fmix64_constants_isUnit : IsUnit 0xbf58476d1ce4e5b9#64 ∧ IsUnit 0x94d049bb133111eb#64 :=
  ⟨.of_mul_eq_one 0x96de1b173f119089#64 (by decide), .of_mul_eq_one 0x319642b2d24d8ec3#64 (by decide)⟩

theorem fmix64_injective : Function.Injective fmix64 := by
  obtain ⟨hodd1, hodd2⟩ := fmix64_constants_isUnit
  have round1 := hodd1.mul_right_injective.comp (xor_ushiftRight_injective (w := 64) (n := 30) (by decide))
  have round2 := hodd2.mul_right_injective.comp (xor_ushiftRight_injective (w := 64) (n := 27) (by decide))
  exact (xor_ushiftRight_injective (n := 31) (by decide)).comp (round2.comp round1)

/-- For a fixed counter, different upper halves of SELECTOR hash to different words. -/
theorem reference_hashWide_injective (c : Word128) : Function.Injective (Config.reference.hashWide c) := by
  intro t u h
  rw [reference_hashWide, reference_hashWide] at h
  have houter := (BitVec.xor_right_inj _).mp (fmix64_injective h)
  exact (BitVec.xor_right_inj _).mp (fmix64_injective houter)

end Sys2Proof
end

section
/-! PROOFS. Affine maps (44_jump.md R160) compose as a monoid acting on the counters, and the power by repeated squaring
(R163) is the iterated composition. -/

namespace Sys2Proof.Machine

/-! ### Composition (R160) -/

@[simp] theorem AffineMap.one_apply (x : Word128) : AffineMap.one.apply x = x := by simp [AffineMap.one, AffineMap.apply]

@[simp] theorem AffineMap.compose_apply (g f : AffineMap) (x : Word128) :
    (g.compose f).apply x = g.apply (f.apply x) := by
  simp only [AffineMap.compose, AffineMap.apply]
  ring

@[simp] theorem AffineMap.one_compose (f : AffineMap) : AffineMap.one.compose f = f := by
  simp [AffineMap.one, AffineMap.compose]

@[simp] theorem AffineMap.compose_one (f : AffineMap) : f.compose AffineMap.one = f := by
  simp [AffineMap.one, AffineMap.compose]

theorem AffineMap.compose_assoc (h g f : AffineMap) : (h.compose g).compose f = h.compose (g.compose f) := by
  simp only [AffineMap.compose, AffineMap.mk.injEq]
  constructor <;> ring

/-! ### Iterated composition -/

theorem AffineMap.iterate_compose_add (S : AffineMap) (m n : Nat) :
    S.compose^[m + n] AffineMap.one = (S.compose^[m] AffineMap.one).compose (S.compose^[n] AffineMap.one) := by
  induction m with
  | zero => simp
  | succ m ih => rw [Nat.succ_add, Function.iterate_succ_apply', Function.iterate_succ_apply', ih, compose_assoc]

/-- The n-fold composition applies the map n times. -/
theorem AffineMap.iterate_compose_apply (S : AffineMap) (n : Nat) (x : Word128) :
    (S.compose^[n] AffineMap.one).apply x = S.apply^[n] x := by
  induction n with
  | zero => simp
  | succ n ih => rw [Function.iterate_succ_apply', compose_apply, ih, Function.iterate_succ_apply']

/-! ### Repeated squaring (R163) -/

/-- Adding bit n of e to its n low bits gives its n + 1 low bits. -/
theorem toNat_mod_two_pow_succ (e : Word128) (n : Nat) :
    e.toNat % 2 ^ (n + 1) = (if e.getLsbD n then 2 ^ n else 0) + e.toNat % 2 ^ n := by
  rw [Nat.mod_pow_succ, ← BitVec.testBit_toNat, Nat.testBit_eq_decide_div_mod_eq]
  rcases Nat.mod_two_eq_zero_or_one (e.toNat / 2 ^ n) with h | h <;> simp [h, Nat.add_comm]

/-- After n rounds the accumulator holds the power of the n low bits of e, and the current power is S^(2^n). -/
theorem powerRounds_eq (S : AffineMap) (e : Word128) (n : Nat) :
    powerRounds S e n = (S.compose^[e.toNat % 2 ^ n] AffineMap.one, S.compose^[2 ^ n] AffineMap.one) := by
  induction n with
  | zero => simp [powerRounds, Nat.mod_one]
  | succ n ih =>
    simp only [powerRounds, ih, Prod.mk.injEq]
    constructor
    · rw [toNat_mod_two_pow_succ, AffineMap.iterate_compose_add]
      split <;> simp
    · rw [pow_succ, Nat.mul_two, AffineMap.iterate_compose_add]

theorem power_eq_iterate (S : AffineMap) (e : Word128) : power S e = S.compose^[e.toNat] AffineMap.one := by
  rw [power, powerRounds_eq, Nat.mod_eq_of_lt e.isLt]

theorem power_apply (S : AffineMap) (e : Word128) (x : Word128) : (power S e).apply x = S.apply^[e.toNat] x := by
  rw [power_eq_iterate, AffineMap.iterate_compose_apply]

end Sys2Proof.Machine
end

section
/-! PROOFS. The stepper (42_stepper.md): the reference increment (R120), the step function and the single-step map (R121,
R161), the widening multiply (R123), STEP and DRAW (R124, R125). -/

namespace Sys2Proof.Machine

/-! ### The step function and the map that applies it (R121, R161) -/

theorem multiplier_lt (k : Config) : k.multiplier < 2 ^ 128 := by
  have := k.multX.isLt
  have := k.multLo.isLt
  rw [Config.multiplier]
  omega

theorem stepCounter_toNat (k : Config) (inc c : Word128) :
    (stepCounter k inc c).toNat = (k.multiplier * c.toNat + inc.toNat) % 2 ^ 128 := BitVec.toNat_ofNat _ _

@[simp] theorem stepCounter_zero (k : Config) (inc : Word128) : stepCounter k inc 0 = inc := by
  simp [stepCounter]

theorem stepMap_mul_toNat (k : Config) (inc : Word128) : (stepMap k inc).mul.toNat = k.multiplier := by
  rw [stepMap, BitVec.toNat_ofNat, Nat.mod_eq_of_lt (multiplier_lt k)]

theorem stepMap_apply (k : Config) (inc : Word128) : (stepMap k inc).apply = stepCounter k inc := by
  funext c
  simp [AffineMap.apply, stepMap, stepCounter, BitVec.ofNat_add, BitVec.ofNat_mul]

/-- Settles O40: the numbers and the application are the lemmas above. -/
theorem singleStepMap : Obligations.SingleStepMap := fun k inc c =>
  ⟨stepCounter_toNat k inc c, stepMap_mul_toNat k inc, rfl, congrFun (stepMap_apply k inc) c⟩

/-! ### The widening multiply (R123) -/

theorem toNat_mul_toNat_lt (a b : Word64) : a.toNat * b.toNat < 2 ^ 128 := by
  have h : a.toNat * b.toNat < 2 ^ 64 * 2 ^ 64 := Nat.mul_lt_mul'' a.isLt b.isLt
  rwa [← pow_add] at h

theorem wmul64_toNat (a b : Word64) : (wmul64 a b).toNat = a.toNat * b.toNat := by
  rw [wmul64, BitVec.toNat_ofNat, Nat.mod_eq_of_lt (toNat_mul_toNat_lt a b)]

/-- A product of two 32-bit halves fits 64 bits, so widening it loses nothing. -/
theorem zext128_mul_toNat {x y : Word64} (hx : x.toNat < 2 ^ 32) (hy : y.toNat < 2 ^ 32) :
    (zext128 (x * y)).toNat = x.toNat * y.toNat := by
  have hxy : x.toNat * y.toNat < 2 ^ 32 * 2 ^ 32 := Nat.mul_lt_mul'' hx hy
  rw [← pow_add] at hxy
  rw [zext128_toNat, BitVec.toNat_mul, Nat.mod_eq_of_lt hxy]

theorem toNat_half_lt (x : Word64) (start : Nat) : ((x.extractLsb' start 32).setWidth 64).toNat < 2 ^ 32 := by
  rw [BitVec.toNat_setWidth_of_le (by decide)]
  exact BitVec.isLt _

theorem toNat_low_half (x : Word64) : ((x.extractLsb' 0 32).setWidth 64).toNat = x.toNat % 2 ^ 32 := by
  rw [BitVec.toNat_setWidth_of_le (by decide), BitVec.extractLsb'_toNat, Nat.shiftRight_zero]

theorem toNat_high_half (x : Word64) : ((x.extractLsb' 32 32).setWidth 64).toNat = x.toNat / 2 ^ 32 := by
  have hx : x.toNat / 2 ^ 32 < 2 ^ 32 := Nat.div_lt_of_lt_mul x.isLt
  rw [BitVec.toNat_setWidth_of_le (by decide), BitVec.extractLsb'_toNat, Nat.shiftRight_eq_div_pow, Nat.mod_eq_of_lt hx]

/-- The sum of the four partial products of R123, over Nat. -/
def partialProductSum (a b : Nat) : Nat :=
  a % 2 ^ 32 * (b % 2 ^ 32) + a % 2 ^ 32 * (b / 2 ^ 32) * 2 ^ 32 + a / 2 ^ 32 * (b % 2 ^ 32) * 2 ^ 32 +
    a / 2 ^ 32 * (b / 2 ^ 32) * 2 ^ 64

theorem partialProductSum_eq (a b : Nat) : partialProductSum a b = a * b :=
  calc partialProductSum a b = (2 ^ 32 * (a / 2 ^ 32) + a % 2 ^ 32) * (2 ^ 32 * (b / 2 ^ 32) + b % 2 ^ 32) := by
        rw [partialProductSum]; ring
    _ = a * b := by rw [Nat.div_add_mod, Nat.div_add_mod]

/-- The composition's sums mod 2^128 are the sum over Nat, which as the full product fits 128 bits. -/
theorem wmul64Parts_toNat (a b : Word64) : (wmul64Parts a b).toNat = partialProductSum a.toNat b.toNat := by
  have hfits : partialProductSum a.toNat b.toNat < 2 ^ 128 := by
    rw [partialProductSum_eq]
    exact toNat_mul_toNat_lt a b
  rw [← Nat.mod_eq_of_lt hfits]
  simp only [wmul64Parts, partialProductSum, BitVec.toNat_add, BitVec.toNat_shiftLeft, Nat.shiftLeft_eq,
    zext128_mul_toNat (toNat_half_lt _ _) (toNat_half_lt _ _), toNat_low_half, toNat_high_half, Nat.mod_add_mod,
    Nat.add_mod_mod]

/-- Settles O42: both are the product as numbers, and the sum of the partial products is that of the composition. -/
theorem wideningMultiply : Obligations.WideningMultiply := by
  refine fun a b => ⟨wmul64_toNat a b, BitVec.eq_of_toNat_eq ?_, wmul64Parts_toNat a b⟩
  rw [wmul64Parts_toNat, partialProductSum_eq, wmul64_toNat]

/-! ### The reference increment (R120) -/

/-- `2x + 1`, the low bit being free after the shift. -/
theorem shiftLeft_one_or_one_toNat (x : Word128) : ((x <<< 1) ||| 1#128).toNat = (2 * x.toNat + 1) % 2 ^ 128 := by
  have hfree : (x <<< 1) &&& 1#128 = 0#128 := by simp [BitVec.and_one_eq_setWidth_ofBool_getLsbD]
  rw [← BitVec.add_eq_or_of_and_eq_zero _ _ hfree, BitVec.toNat_add, BitVec.toNat_shiftLeft, Nat.shiftLeft_eq,
    BitVec.toNat_ofNat]
  omega

theorem reference_inc_wide_toNat (s : Word128) :
    (Config.reference.inc .wide s).toNat = (2 * s.toNat + 1) % 2 ^ 128 := shiftLeft_one_or_one_toNat s

theorem reference_inc_narrow_toNat (s : Word128) :
    (Config.reference.inc .narrow s).toNat = 2 * (s.toNat % 2 ^ 64) + 1 := by
  have hnum : (Config.reference.inc .narrow s).toNat = (2 * (zext128 (lo64 s)).toNat + 1) % 2 ^ 128 :=
    shiftLeft_one_or_one_toNat _
  rw [hnum, zext128_toNat, lo64_toNat]
  omega

theorem reference_inc_odd (v : Variant) (s : Word128) : (Config.reference.inc v s).toNat % 2 = 1 := by
  cases v with
  | narrow => rw [reference_inc_narrow_toNat]; omega
  | wide => rw [reference_inc_wide_toNat]; omega

theorem lo64_eq_of_reference_inc_narrow_eq {s t : Word128}
    (h : Config.reference.inc .narrow s = Config.reference.inc .narrow t) : lo64 s = lo64 t := by
  have hnum := congrArg BitVec.toNat h
  rw [reference_inc_narrow_toNat, reference_inc_narrow_toNat] at hnum
  refine BitVec.eq_of_toNat_eq ?_
  rw [lo64_toNat, lo64_toNat]
  omega

/-- The shift drops bit 127 of the selector. -/
theorem reference_inc_wide_xor_top (s : Word128) :
    Config.reference.inc .wide (s ^^^ BitVec.ofNat 128 (2 ^ 127)) = Config.reference.inc .wide s := by
  have hdrop : BitVec.ofNat 128 (2 ^ 127) <<< 1 = 0#128 := by decide
  rw [(reference_inc _).2, (reference_inc _).2, BitVec.shiftLeft_xor_distrib, hdrop, BitVec.xor_zero]

theorem hi64_xor_top_ne (s : Word128) : hi64 (s ^^^ BitVec.ofNat 128 (2 ^ 127)) ≠ hi64 s := by
  have htop : hi64 (BitVec.ofNat 128 (2 ^ 127)) ≠ 0#64 := by decide
  intro h
  rw [hi64, BitVec.extractLsb'_xor] at h
  exact htop ((BitVec.xor_right_inj (hi64 s)).mp (h.trans BitVec.xor_zero.symm))

/-- Settles O39: the increments as numbers, and for the two selectors that share one, the injectivity of the wide hash in
the upper half of SELECTOR. -/
theorem referenceIncrement : Obligations.ReferenceIncrement :=
  ⟨reference_inc_narrow_toNat, reference_inc_wide_toNat, reference_inc_odd, fun _ _ => lo64_eq_of_reference_inc_narrow_eq,
    fun s => ⟨reference_inc_wide_xor_top s, fun c => (reference_hashWide_injective c).ne (hi64_xor_top_ne s)⟩⟩

/-! ### Commands whose word has no free bit (R75) -/

/-- Under the full mask a row matches its own pattern alone, so any other word with that opcode is rejected. -/
theorem perform_of_ne_pattern {i : Instr} {c : Command} (hmask : i.row.mask = BitVec.allOnes 32)
    (hop : opField c.cmd = i.opcode) (hne : c.cmd ≠ i.row.pattern) (s : State) :
    perform c s = .next (s.reject .ill) := by
  refine perform_of_not_matches hop (fun hm => hne ?_) s
  rwa [OpcodeRow.Matches, hmask, BitVec.and_allOnes] at hm

/-! ### STEP (R124) -/

theorem exec_step_of_valid {s : State} (hv : s.stateValid = true) : exec .step s = .next (s.stepped config) :=
  (exec_step s).trans (State.whenConstructed_of_valid hv)

/-- Settles O19: the guard's two branches, the word and its row, and the step from 0. -/
theorem stepCommand : Obligations.StepCommand := by
  refine ⟨fun s hv => exec_step_of_valid hv, fun s hv => exec_of_not_valid rfl hv,
    fun a b => (matches_iff_decode (i := .step) instrOf_step).mp (by decide),
    fun w a b s hop hne => perform_of_ne_pattern (i := .step) (c := ⟨w, a, b⟩) rfl hop hne s, fun s hv h0 => ?_,
    by decide, by decide⟩
  rw [exec_step_of_valid hv, State.stepped, h0, stepCounter_zero]
  rfl

/-! ### DRAW (R125, R126) -/

theorem exec_draw_of_valid {s : State} (hv : s.stateValid = true) : exec .draw s = .next (s.drawn config) :=
  (exec_draw s).trans (State.whenConstructed_of_valid hv)

theorem exec_jump_of_valid {s : State} (hv : s.stateValid = true) (e : Word128) :
    exec (.jump e) s = .next (s.jumped config e) :=
  (exec_jump e s).trans (State.whenConstructed_of_valid hv)

/-- Repeating an instruction that a valid state performs, and that leaves the state valid, iterates its effect. -/
theorem execAll_replicate {i : Instr} {f : State → State}
    (hexec : ∀ s : State, s.stateValid = true → exec i s = .next (f s))
    (hvalid : ∀ s : State, s.stateValid = true → (f s).stateValid = true) (n : Nat) {s : State}
    (hv : s.stateValid = true) : execAll (List.replicate n i) s = .next (f^[n] s) := by
  induction n generalizing s with
  | zero => rfl
  | succ n ih => rw [List.replicate_succ, execAll_cons (hexec s hv), ih (hvalid s hv), Function.iterate_succ_apply]

/-- n DRAWs step the counter n times: a DRAW leaves VARIANT and SELECTOR, hence the increment. -/
theorem State.iterate_drawn_counter (k : Config) (n : Nat) (s : State) :
    ((State.drawn · k)^[n] s).counter = (stepCounter k (s.increment k))^[n] s.counter := by
  induction n generalizing s with
  | zero => rfl
  | succ n ih => rw [Function.iterate_succ_apply, ih, drawn_increment, drawn_counter, Function.iterate_succ_apply]

/-- A jump by e steps the counter e times (R163, R164). -/
theorem State.jumped_counter_eq_iterate (s : State) (k : Config) (e : Word128) :
    (s.jumped k e).counter = (stepCounter k (s.increment k))^[e.toNat] s.counter := by
  rw [jumped_counter, power_apply, stepMap_apply]

/-- Settles O20: the guard's two branches, the word and its row, and the counter of e DRAWs against that of JUMP e. -/
theorem drawCommand : Obligations.DrawCommand := by
  refine ⟨fun s hv => ?_, fun s hv => exec_of_not_valid rfl hv,
    fun a b => (matches_iff_decode (i := .draw) instrOf_draw).mp (by decide),
    fun w a b s hop hne => perform_of_ne_pattern (i := .draw) (c := ⟨w, a, b⟩) rfl hop hne s,
    fun s hv => ⟨_, _, exec_draw_of_valid hv, exec_step_of_valid hv, rfl⟩, fun s e hv => ?_, fun s h hv => ?_, rfl, rfl⟩
  · obtain ⟨c, sel, v, _, _, _, _, _, _, _⟩ := s
    rw [exec_draw_of_valid hv]
    cases v <;> rfl
  · refine ⟨_, _, execAll_replicate (fun _ => exec_draw_of_valid) (fun _ h => h) e.toNat hv, exec_jump_of_valid hv e, ?_⟩
    rw [State.iterate_drawn_counter, State.jumped_counter_eq_iterate]
  · rw [exec_draw_of_valid hv, exec_draw_of_valid (s := { s with out := h }) hv]
    rfl

end Sys2Proof.Machine
end

section
/-! PROOFS. MIX (43_output_hash.md R145): its effect, its repetition, and how it meets DRAW under each tap. -/

namespace Sys2Proof.Machine

theorem exec_mix_of_valid {s : State} (hv : s.stateValid = true) : exec .mix s = .next (s.mixed config) :=
  (exec_mix s).trans (State.whenConstructed_of_valid hv)

/-- MIX reads no OUT, so a second one writes the word again. -/
@[simp] theorem State.mixed_mixed (s : State) (k : Config) : (s.mixed k).mixed k = s.mixed k := rfl

theorem execAll_mix_mix {s : State} (hv : s.stateValid = true) : execAll [.mix, .mix] s = exec .mix s := by
  have hv' : (s.mixed config).stateValid = true := hv
  rw [execAll_cons (exec_mix_of_valid hv), execAll_cons (exec_mix_of_valid hv'), execAll_nil, State.mixed_mixed,
    exec_mix_of_valid hv]

/-! ### The tap (R126) -/

theorem State.drawWord_of_tap_pre {s : State} {k : Config} (h : s.tap k = .pre) : s.drawWord k = s.hash k s.counter := by
  rw [drawWord, h]

theorem State.drawWord_of_tap_post {s : State} {k : Config} (h : s.tap k = .post) :
    s.drawWord k = s.hash k (stepCounter k (s.increment k) s.counter) := by
  rw [drawWord, h]

/-- Under tap POST a DRAW hashes the counter it leaves, which a MIX after it hashes again. -/
theorem State.drawn_mixed_out {s : State} {k : Config} (h : s.tap k = .post) :
    ((s.drawn k).mixed k).out = (s.drawn k).out := by
  rw [mixed_out, drawn_hash, drawn_counter, drawn_out, drawWord_of_tap_post h]

/-- Under tap PRE a DRAW hashes the counter it finds, which a MIX before it has hashed and left. -/
theorem State.mixed_drawn_out {s : State} {k : Config} (h : s.tap k = .pre) :
    ((s.mixed k).drawn k).out = (s.mixed k).out := by
  have hmix : (s.mixed k).tap k = .pre := by rwa [mixed_tap]
  rw [drawn_out, drawWord_of_tap_pre hmix, mixed_hash, mixed_counter, mixed_out]

/-- Settles O21: the guard's two branches, the word and its row, the repeated MIX, and a MIX beside a DRAW under each tap. -/
theorem mixCommand : Obligations.MixCommand := by
  refine ⟨fun s hv => ?_, fun s hv => exec_of_not_valid rfl hv,
    fun a b => (matches_iff_decode (i := .mix) instrOf_mix).mp (by decide), rfl,
    fun w a b s hop hne => perform_of_ne_pattern (i := .mix) (c := ⟨w, a, b⟩) rfl hop hne s,
    fun s hv => execAll_mix_mix hv, fun _ _ => State.drawn_mixed_out, fun _ _ => State.mixed_drawn_out⟩
  rw [exec_mix_of_valid hv]
  rfl

end Sys2Proof.Machine
end

section
/-! PROOFS. JUMP (44_jump.md): the power in either bit order (R163), the period of the single-step map, JUMP as iterated
STEPs (R164, R165), and the signed count (R162). -/

namespace Sys2Proof.Machine

/-! ### The order of rounds (R163) -/

/-- Scanning the n low bits of e from the top squares the accumulated power n times and multiplies those bits in. -/
theorem powerMsbRounds_eq (S : AffineMap) (e : Word128) (n j : Nat) :
    powerMsbRounds S e n (S.compose^[j] AffineMap.one) = S.compose^[2 ^ n * j + e.toNat % 2 ^ n] AffineMap.one := by
  induction n generalizing j with
  | zero => simp [powerMsbRounds, Nat.mod_one]
  | succ n ih =>
    rw [powerMsbRounds, ← AffineMap.iterate_compose_add, ← Function.iterate_succ_apply' S.compose,
      Nat.succ_eq_add_one, toNat_mod_two_pow_succ]
    split <;> rw [ih] <;> congr 1 <;> ring

theorem powerMsbFirst_eq_power (S : AffineMap) (e : Word128) : powerMsbFirst S e = power S e := by
  have h := powerMsbRounds_eq S e 128 0
  rwa [Nat.mul_zero, Nat.zero_add, Nat.mod_eq_of_lt e.isLt, ← power_eq_iterate] at h

/-- Rounds above the highest set bit of e leave the accumulated map. -/
theorem powerRounds_eq_power_of_lt (S : AffineMap) {e : Word128} {n : Nat} (h : e.toNat < 2 ^ n) :
    (powerRounds S e n).1 = power S e := by
  rw [powerRounds_eq, Nat.mod_eq_of_lt h, power_eq_iterate]

/-- Settles O45: each order of rounds, and the rounds stopped early, compute the iterated composition. -/
theorem powerIsIteratedComposition : Obligations.PowerIsIteratedComposition := fun S e =>
  ⟨rfl, power_eq_iterate S e, powerMsbFirst_eq_power S e, fun _ _ h => powerRounds_eq_power_of_lt S h⟩

/-! ### The period of an odd multiplier (R127) -/

/-- Squaring a map with odd multiplier n times makes its multiplier 1 mod 2^(n+1) and its increment 0 mod 2^n. -/
theorem AffineMap.iterate_compose_two_pow {S : AffineMap} (h : Odd S.mul) (n : Nat) :
    ∃ a b : Word128, S.compose^[2 ^ n] AffineMap.one = ⟨2 ^ (n + 1) * a + 1, 2 ^ n * b⟩ := by
  induction n with
  | zero =>
    obtain ⟨a, ha⟩ := h
    refine ⟨a, S.add, ?_⟩
    rw [pow_zero, Function.iterate_one, compose_one, zero_add, pow_one, ← ha, pow_zero, one_mul]
  | succ n ih =>
    obtain ⟨a, b, hab⟩ := ih
    refine ⟨a + 2 ^ n * a ^ 2, b + 2 ^ n * a * b, ?_⟩
    rw [pow_succ 2 n, Nat.mul_two, iterate_compose_add, hab, compose, AffineMap.mk.injEq]
    constructor <;> ring

theorem AffineMap.iterate_compose_two_pow_width {S : AffineMap} (h : Odd S.mul) :
    S.compose^[2 ^ 128] AffineMap.one = AffineMap.one := by
  obtain ⟨a, b, hab⟩ := iterate_compose_two_pow h 128
  have h0 : (2 : Word128) ^ 128 = 0 := BitVec.eq_of_toNat_eq (BitVec.toNat_pow 2 128)
  rw [hab, pow_succ, h0, zero_mul, zero_mul, zero_mul, zero_add]
  rfl

/-- R6 makes the multiplier odd. -/
theorem odd_stepMap_mul {k : Config} (hk : k.MultiplierOk) (inc : Word128) : Odd (stepMap k inc).mul := by
  obtain ⟨m, hm⟩ : Odd k.multiplier := by
    rw [Config.MultiplierOk] at hk
    rw [Nat.odd_iff, Config.multiplier]
    omega
  refine ⟨BitVec.ofNat 128 m, ?_⟩
  rw [stepMap, hm, BitVec.ofNat_add, BitVec.ofNat_mul]
  rfl

theorem iterate_stepCounter_of_dvd {k : Config} (hk : k.MultiplierOk) (inc : Word128) {n : Nat} (hn : 2 ^ 128 ∣ n) :
    (stepCounter k inc)^[n] = id := by
  obtain ⟨m, rfl⟩ := hn
  have hperiod : (stepCounter k inc)^[2 ^ 128] = id := by
    funext c
    rw [← stepMap_apply, ← AffineMap.iterate_compose_apply,
      AffineMap.iterate_compose_two_pow_width (odd_stepMap_mul hk inc), AffineMap.one_apply, id]
  rw [Function.iterate_mul, hperiod, Function.iterate_id]

/-! ### Iterated STEPs and DRAWs (R165) -/

theorem State.iterate_stepped (k : Config) (n : Nat) (s : State) :
    (State.stepped · k)^[n] s = s.withCounter ((stepCounter k (s.increment k))^[n] s.counter) := by
  induction n generalizing s with
  | zero => rfl
  | succ n ih =>
    rw [Function.iterate_succ_apply, ih, stepped_increment, stepped_counter, ← Function.iterate_succ_apply]
    rfl

theorem State.iterate_stepped_of_dvd {k : Config} (hk : k.MultiplierOk) {n : Nat} (hn : 2 ^ 128 ∣ n) (s : State) :
    (State.stepped · k)^[n] s = s := by
  rw [iterate_stepped, iterate_stepCounter_of_dvd hk _ hn]
  rfl

/-- A jump by e is e steps of the state. -/
theorem State.jumped_eq_iterate_stepped (s : State) (k : Config) (e : Word128) :
    s.jumped k e = (State.stepped · k)^[e.toNat] s := by
  rw [iterate_stepped, ← jumped_counter_eq_iterate]
  rfl

/-- But for OUT a DRAW is a STEP. -/
theorem State.iterate_drawn_withOut (k : Config) (n : Nat) (s : State) (h : Word64) :
    ((State.drawn · k)^[n] s).withOut h = (State.stepped · k)^[n] (s.withOut h) :=
  Function.Semiconj.iterate_right (f := (State.withOut · h)) (fun _ => rfl) n s

theorem execAll_replicate_step {s : State} (hv : s.stateValid = true) (n : Nat) :
    execAll (List.replicate n .step) s = .next ((State.stepped · config)^[n] s) :=
  execAll_replicate (fun _ => exec_step_of_valid) (fun _ h => h) n hv

theorem exec_jump_eq_iterate_stepped {s : State} (hv : s.stateValid = true) (e : Word128) :
    exec (.jump e) s = .next ((State.stepped · config)^[e.toNat] s) := by
  rw [exec_jump_of_valid hv, State.jumped_eq_iterate_stepped]

theorem exec_jump_eq_execAll_step {s : State} (hv : s.stateValid = true) (e : Word128) :
    exec (.jump e) s = execAll (List.replicate e.toNat .step) s := by
  rw [exec_jump_eq_iterate_stepped hv, execAll_replicate_step hv]

/-- Settles O47: e STEPs by the lemma above, and e DRAWs are e STEPs once OUT is put back. -/
theorem jumpEqualsIteratedSteps : Obligations.JumpEqualsIteratedSteps := fun s e hv =>
  ⟨(exec_jump_eq_execAll_step hv e).symm, _, _,
    execAll_replicate (fun _ => exec_draw_of_valid) (fun _ h => h) e.toNat hv, exec_jump_of_valid hv e,
    (State.iterate_drawn_withOut config e.toNat s s.out).trans (s.jumped_eq_iterate_stepped config e).symm⟩

/-! ### The signed count (R162) -/

theorem asmOperand_toNat (d : Int) : ((asmOperand d).toNat : Int) = d % 2 ^ 128 := by
  rw [asmOperand, BitVec.toNat_ofInt]
  omega

/-- The exponent of a count -n and n make a multiple of the period. -/
theorem dvd_asmOperand_neg_add (n : Nat) : 2 ^ 128 ∣ (asmOperand (-(n : Int))).toNat + n := by
  have h := asmOperand_toNat (-(n : Int))
  omega

/-- The multiplier of the block is one R6 allows. -/
theorem config_multiplierOk : config.MultiplierOk := rfl

/-- n steps and a jump by -n, in either order, leave the state. -/
theorem iterate_stepped_jump_neg (n : Nat) (s : State) :
    (State.stepped · config)^[(asmOperand (-(n : Int))).toNat] ((State.stepped · config)^[n] s) = s ∧
    (State.stepped · config)^[n] ((State.stepped · config)^[(asmOperand (-(n : Int))).toNat] s) = s := by
  have h : 2 ^ 128 ∣ (asmOperand (-(n : Int))).toNat + n := dvd_asmOperand_neg_add n
  rw [← Function.iterate_add_apply, ← Function.iterate_add_apply, Nat.add_comm n, and_self]
  exact State.iterate_stepped_of_dvd config_multiplierOk h s

theorem State.iterate_stepped_stateValid (k : Config) (n : Nat) (s : State) :
    ((State.stepped · k)^[n] s).stateValid = s.stateValid := by
  rw [iterate_stepped, withCounter_stateValid]

theorem execAll_append {is : List Instr} {s t : State} (h : execAll is s = .next t) (js : List Instr) :
    execAll (is ++ js) s = execAll js t := by
  induction is generalizing s with
  | nil => cases h; rfl
  | cons i is ih =>
    obtain ⟨u, hu⟩ := exec_completes i s
    rw [execAll_cons hu] at h
    rw [List.cons_append, execAll_cons hu, ih h]

@[simp] theorem execAll_singleton (i : Instr) (s : State) : execAll [i] s = exec i s := by
  obtain ⟨t, ht⟩ := exec_completes i s
  rw [execAll_cons ht, execAll_nil, ht]

theorem execAll_steps_jump_neg {s : State} (hv : s.stateValid = true) (n : Nat) :
    execAll (List.replicate n .step ++ [.jump (asmOperand (-(n : Int)))]) s = .next s := by
  have hv' := (State.iterate_stepped_stateValid config n s).trans hv
  obtain ⟨hback, -⟩ := iterate_stepped_jump_neg n s
  rw [execAll_append (execAll_replicate_step hv n), execAll_singleton, exec_jump_eq_iterate_stepped hv', hback]

theorem execAll_jump_neg_steps {s : State} (hv : s.stateValid = true) (n : Nat) :
    execAll (.jump (asmOperand (-(n : Int))) :: List.replicate n .step) s = .next s := by
  have hv' := (State.iterate_stepped_stateValid config (asmOperand (-(n : Int))).toNat s).trans hv
  obtain ⟨-, hforth⟩ := iterate_stepped_jump_neg n s
  rw [execAll_cons (exec_jump_eq_iterate_stepped hv _), execAll_replicate_step hv', hforth]

/-- Settles O46: OPA's two readings as integers, JUMP as that many STEPs, and a negative count by the period. -/
theorem signedCount : Obligations.SignedCount := by
  refine ⟨fun d hlo hhi => ⟨BitVec.toInt_ofInt_eq_self (by decide) hlo hhi, asmOperand_toNat d, fun hneg => ?_⟩,
    fun opa s hv => exec_jump_eq_execAll_step hv opa, fun d s hv => ?_,
    fun opa => ⟨BitVec.le_toInt opa, BitVec.toInt_lt, BitVec.ofInt_toInt⟩,
    fun n s _ hv => execAll_steps_jump_neg hv n, fun opa s hv => ⟨_, exec_jump_of_valid hv opa, rfl⟩, by decide⟩
  · rw [asmOperand_toNat]
    omega
  · rw [exec_jump_eq_execAll_step hv, ← asmOperand_toNat, Int.toNat_natCast]

/-! ### JUMP (R164) -/

/-- Settles O22: the power as the iterated composition, the guard, the word and its row, and the counts 0, 1 and -1 as
that many STEPs. -/
theorem jumpCommand : Obligations.JumpCommand := by
  refine ⟨fun e s hv => ?_, fun e s hv => exec_of_not_valid rfl hv,
    fun a b => (matches_iff_decode (i := .jump a) instrOf_jump).mp (BitVec.and_allOnes (x := 5#32)), fun _ => rfl,
    fun _ hn => if_pos hn,
    fun w a b s hop hne => perform_of_ne_pattern (i := .jump a) (c := ⟨w, a, b⟩) rfl hop hne s,
    fun s hv => exec_jump_eq_iterate_stepped hv 0, fun s hv => ?_,
    fun s hv => ⟨execAll_steps_jump_neg hv 1, execAll_jump_neg_steps hv 1⟩, by decide⟩
  · rw [exec_jump_of_valid hv, State.jumped, power_eq_iterate]
    rfl
  · exact (exec_jump_eq_execAll_step hv 1).trans (execAll_singleton .step s)

end Sys2Proof.Machine
end

section
/-! PROOFS. The seeder (45_seeder.md): the three seeding commands as operations on the absorber, their words, and the
absorber's isolation from every other command (R182). -/

namespace Sys2Proof.Machine

theorem execAll_pair {i : Instr} {s t : State} (h : exec i s = .next t) (j : Instr) : execAll [i, j] s = exec j t := by
  rw [execAll_cons h, execAll_singleton]

/-! ### SEED_INIT (R183) -/

@[simp] theorem State.initAbsorber_initAbsorber (s : State) (k : Config) :
    (s.initAbsorber k).initAbsorber k = s.initAbsorber k := rfl

/-- SEED_INIT discards what was absorbed. -/
@[simp] theorem State.absorbed_initAbsorber (s : State) (n : Nat) (x : Word128) (k : Config) :
    (s.absorbed n x).initAbsorber k = s.initAbsorber k := rfl

@[simp] theorem State.seeded_initAbsorber (s : State) (k : Config) (v : Variant) (sel : Option Word128) :
    (s.seeded k v sel).initAbsorber k = s.seeded k v sel := rfl

@[simp] theorem State.resetOf_initAbsorber (k : Config) : (State.resetOf k).initAbsorber k = State.resetOf k := rfl

/-- Settles O23: the word and its row, and SEED_INIT after reset and after each seeding command. -/
theorem seedInitCommand : Obligations.SeedInitCommand := by
  refine ⟨fun s => exec_seedInit s, fun a b => (matches_iff_decode (i := .seedInit) instrOf_seedInit).mp (by decide),
    fun w a b s hop hne => perform_of_ne_pattern (i := .seedInit) (c := ⟨w, a, b⟩) rfl hop hne s, fun s => ?_,
    fun n x s => ?_, ?_, fun v sel s => ?_⟩
  · rw [execAll_pair (exec_seedInit s), exec_seedInit, State.initAbsorber_initAbsorber, exec_seedInit]
  · rw [execAll_pair (exec_seedAbsorb n x s), exec_seedInit, State.absorbed_initAbsorber, exec_seedInit]
  · rw [exec_seedInit, State.reset, State.resetOf_initAbsorber]
  · rw [execAll_pair (exec_seedFinal v sel s), exec_seedInit, State.seeded_initAbsorber, exec_seedFinal]

/-! ### SEED_ABSORB (R184) -/

theorem chunkOperand_eq_ofNat {n : Nat} (hn : n ≤ 8) (x : Word128) :
    chunkOperand n x = BitVec.ofNat 64 (x.toNat % 2 ^ (8 * n)) := by
  rw [← chunkOperand_toNat hn, BitVec.ofNat_toNat, BitVec.setWidth_eq]

theorem add_ofNat_eq_ofNat_toNat_add (x : Word64) (n : Nat) : x + BitVec.ofNat 64 n = BitVec.ofNat 64 (x.toNat + n) := by
  rw [BitVec.ofNat_add, BitVec.ofNat_toNat, BitVec.setWidth_eq]

@[simp] theorem chunkOperand_zero (n : Nat) : chunkOperand n 0 = 0 := BitVec.zero_and

/-- Chunks of different lengths, both below 2^64, count differently in SL. -/
theorem add_ofNat_ne_add_ofNat {n m : Nat} (hn : n < 2 ^ 64) (hm : m < 2 ^ 64) (h : n ≠ m) (x : Word64) :
    x + BitVec.ofNat 64 n ≠ x + BitVec.ofNat 64 m := by
  intro he
  have hnm := congrArg BitVec.toNat ((BitVec.add_right_inj x).mp he)
  rw [BitVec.toNat_ofNat, BitVec.toNat_ofNat, Nat.mod_eq_of_lt hn, Nat.mod_eq_of_lt hm] at hnm
  exact h hnm

/-- Zero chunks of any two lengths leave the same state but for SL. -/
theorem State.absorbed_zero_withSl (s : State) (n m : Nat) :
    { s.absorbed n 0 with sl := (s.absorbed m 0).sl } = s.absorbed m 0 := by
  simp only [State.absorbed, chunkOperand_zero]
  rfl

/-- Settles O24: the chunk as a number, the words of its row, zero chunks, and chunks that agree on the n low bytes. -/
theorem seedAbsorbCommand : Obligations.SeedAbsorbCommand := by
  refine ⟨fun nb x s => ?_, fun w a b h => ?_, fun w a b s hop h => ?_, fun nb mb s hne => ?_, fun nb x y s h => ?_⟩
  · dsimp only
    rw [exec_seedAbsorb, State.absorbed, chunkOperand_eq_ofNat nb.isLt, add_ofNat_eq_ofNat_toNat_add]
    rfl
  · exact (matches_iff_decode (i := .seedAbsorb _ _) instrOf_seedAbsorb).mp h
  · exact perform_of_not_matches (i := .seedAbsorb 1 a) (c := ⟨w, a, b⟩) hop h s
  · have hlen : nb.toNat + 1 ≠ mb.toNat + 1 := fun he => hne (BitVec.eq_of_toNat_eq (Nat.succ.inj he))
    have hn := nb.isLt
    have hm := mb.isLt
    exact ⟨_, _, exec_seedAbsorb _ _ s, exec_seedAbsorb _ _ s,
      add_ofNat_ne_add_ofNat (by omega) (by omega) hlen s.sl, s.absorbed_zero_withSl _ _⟩
  · rw [exec_seedAbsorb, State.absorbed_congr nb.isLt h, exec_seedAbsorb]

/-! ### SEED_FINAL (R185, R188) -/

@[simp] theorem lo64_join64 (hi lo : Word64) : lo64 (join64 hi lo) = lo := BitVec.extractLsb'_append_eq_right

/-- The low half of the derived selector is o[2] in both variants. -/
theorem State.lo64_derivedSelector (s : State) (k : Config) (v : Variant) :
    lo64 (s.derivedSelector k v) = s.finalWord k.seedK2 := by
  cases v with
  | narrow => exact lo64_zext128 _
  | wide => exact lo64_join64 _ _

section
variable {r s : State} (ha : r.sa = s.sa) (hb : r.sb = s.sb) (hl : r.sl = s.sl)
include ha hb hl

/-- The constructed counter depends on the absorber alone (R185). -/
theorem State.seedCounter_congr (k : Config) : r.seedCounter k = s.seedCounter k := by
  simp [seedCounter, finalWord, finalB, finalA, ha, hb, hl]

/-- The constructed selector depends on the absorber and on the explicit selector (R185). -/
theorem State.seedSelector_congr (k : Config) (v : Variant) (sel : Option Word128) :
    r.seedSelector k v sel = s.seedSelector k v sel := by
  cases sel with
  | none => exact derivedSelector_congr ha hb hl k v
  | some opb => rfl

end

/-- Settles O25: `State.seeded` case by case, the words of its row, and what COUNTER and SELECTOR depend on. -/
theorem seedFinalCommand : Obligations.SeedFinalCommand := by
  refine ⟨fun v sel s => ?_, fun w a b h => ?_, fun w a b s hop h => ?_, fun v v' sel sel' s => ⟨_, _, rfl, rfl, rfl⟩,
    fun s => ⟨_, _, rfl, rfl, rfl, ?_⟩, fun v v' sel sel' s => ?_⟩
  · rw [exec_seedFinal]
    cases sel <;> cases v <;> rfl
  · exact (matches_iff_decode (i := .seedFinal _ _) instrOf_seedFinal).mp h
  · exact perform_of_not_matches (i := .seedFinal .narrow none) (c := ⟨w, a, b⟩) hop h s
  · exact (s.lo64_derivedSelector config .narrow).trans (s.lo64_derivedSelector config .wide).symm
  · exact ⟨_, _, _, execAll_pair (exec_seedInit s) _, execAll_pair (exec_seedFinal v' sel' s) _, rfl,
      State.seedCounter_congr rfl rfl rfl config, State.seedSelector_congr rfl rfl rfl config v sel,
      State.seedCounter_congr rfl rfl rfl config, State.seedSelector_congr rfl rfl rfl config v sel⟩

/-! ### The absorber's isolation (R182) -/

/-- A command that is no seeding command carries any absorber along unchanged. -/
theorem exec_withAbsorber {i : Instr} {s t : State} (hi : ¬ IsSeeding i) (h : exec i s = .next t) (sa sb sl : Word64) :
    exec i (s.withAbsorber sa sb sl) = .next (t.withAbsorber sa sb sl) := by
  obtain ⟨t', u, ht, hu, heq⟩ := exec_ignores_absorber (i := i) (fun _ _ he => hi (he ▸ rfl))
    (fun _ _ he => hi (he ▸ rfl)) s sa sb sl
  obtain rfl : t' = t := by rw [h] at ht; cases ht; rfl
  obtain ⟨rfl, rfl, rfl⟩ : u.sa = sa ∧ u.sb = sb ∧ u.sl = sl := (exec_frame hu).absorber hi
  rw [← heq]
  exact hu

/-- SEED_INIT and SEED_ABSORB write the absorber alone, and the same values into states with the same absorber. -/
theorem exec_absorbs {i : Instr} (hi : IsSeeding i) (hc : ¬ Constructs i) {s u : State}
    (hu : u.sa = s.sa ∧ u.sb = s.sb ∧ u.sl = s.sl) : ∃ sa sb sl,
    exec i s = .next (s.withAbsorber sa sb sl) ∧ exec i u = .next (u.withAbsorber sa sb sl) := by
  obtain ⟨ha, hb, hl⟩ := hu
  cases i with
  | seedInit => exact ⟨_, _, _, rfl, rfl⟩
  | seedAbsorb n x => exact ⟨_, _, _, rfl, by rw [exec_seedAbsorb, State.absorbed, ha, hb, hl]⟩
  | seedFinal v sel => exact absurd rfl hc
  | nop | load | step | draw | mix | jump | clrst => nomatch hi

/-- SEED_INIT and SEED_ABSORB commute with every command that is no seeding command. -/
theorem execAll_absorbs_comm {i j : Instr} (hi : IsSeeding i) (hc : ¬ Constructs i) (hj : ¬ IsSeeding j) (s : State) :
    execAll [i, j] s = execAll [j, i] s := by
  obtain ⟨u, hu⟩ := exec_completes j s
  obtain ⟨sa, sb, sl, hs, hus⟩ := exec_absorbs hi hc ((exec_frame hu).absorber hj)
  rw [execAll_pair hs, exec_withAbsorber hj hu, execAll_pair hu, hus]

/-- Settles O38: the frame of the other commands, what they leave of another absorber, and the two lemmas on SEED_INIT and
SEED_ABSORB. -/
theorem absorberIsolated : Obligations.AbsorberIsolated := by
  refine ⟨fun _ _ _ hi h => (exec_frame h).absorber hi, fun _ _ _ sa sb sl hi h => exec_withAbsorber hi h sa sb sl,
    ⟨rfl, rfl, rfl⟩, fun i s t hi hc h => ?_, fun _ _ s hi hc hj => execAll_absorbs_comm hi hc hj s⟩
  obtain ⟨sa, sb, sl, hs, -⟩ := exec_absorbs hi hc (s := s) (u := s) ⟨rfl, rfl, rfl⟩
  cases h.symm.trans hs
  rfl

end Sys2Proof.Machine
end

section
/-! PROOFS. The host's byte strings: the little-endian number of a list of bytes has those bytes back, and the canonical
chunking of seed material (45_seeder.md R187). -/

namespace Sys2Proof.Machine

/-- Digit j, base 256, of the number of a list of bytes is its byte j. -/
theorem natOfBytesLE_digit {bs : List Byte} {j : Nat} (hj : j < bs.length) :
    natOfBytesLE bs / 256 ^ j % 256 = bs[j].toNat := by
  induction bs generalizing j with
  | nil => nomatch hj
  | cons b bs ih =>
    have hb := b.isLt
    rw [natOfBytesLE]
    cases j with
    | zero =>
      rw [List.getElem_cons_zero]
      omega
    | succ j =>
      have hdiv : (b.toNat + 256 * natOfBytesLE bs) / 256 = natOfBytesLE bs := by omega
      rw [pow_succ', ← Nat.div_div_eq_div_mul, hdiv, List.getElem_cons_succ]
      exact ih (Nat.lt_of_succ_lt_succ hj)

/-- Byte j of a bus that carries the number of a list of bytes is the list's byte j, where the bus has one. -/
theorem ofNat_natOfBytesLE_byte {bs : List Byte} {j : Nat} (hj : j < bs.length) (h16 : j < 16) :
    (BitVec.ofNat 128 (natOfBytesLE bs)).extractLsb' (8 * j) 8 = bs[j] := by
  have hpow : 2 ^ (8 * j) = 256 ^ j := by rw [pow_mul]; rfl
  have hdvd : 2 ^ (8 * j) * 2 ^ 8 ∣ 2 ^ 128 := by rw [← pow_add]; exact Nat.pow_dvd_pow 2 (by omega)
  refine BitVec.eq_of_toNat_eq ?_
  rw [BitVec.extractLsb'_toNat, BitVec.toNat_ofNat, Nat.shiftRight_eq_div_pow, ← Nat.mod_mul_right_div_self,
    Nat.mod_mod_of_dvd _ hdvd, Nat.mod_mul_right_div_self, hpow]
  exact natOfBytesLE_digit hj

/-! ### The canonical chunks (R187) -/

@[simp] theorem length_chunkBytes (m : List Byte) (i : Nat) : (chunkBytes m i).length = min 8 (m.length - 8 * i) := by
  simp [chunkBytes]

theorem getElem_chunkBytes {m : List Byte} {i j : Nat} (hj : j < (chunkBytes m i).length) :
    m[8 * i + j]? = some (chunkBytes m i)[j] := by
  rw [length_chunkBytes] at hj
  simp only [chunkBytes, List.getElem_take, List.getElem_drop]
  exact List.getElem?_eq_getElem (by omega)

theorem canonicalChunks_length (m : List Byte) : (canonicalChunks m).length = (m.length + 7) / 8 := by
  simp [canonicalChunks]

theorem canonicalChunks_getElem? {m : List Byte} {i : Nat} (hi : i < (m.length + 7) / 8) :
    (canonicalChunks m)[i]? =
      some (.seedAbsorb (min 8 (m.length - 8 * i)) (BitVec.ofNat 128 (natOfBytesLE (chunkBytes m i)))) := by
  simp [canonicalChunks, hi]

/-- Settles O53: the lengths are arithmetic on L, and byte j of a chunk is digit j of its number. -/
theorem canonicalChunking : Obligations.CanonicalChunking := by
  refine fun m => ⟨canonicalChunks_length m, fun i hi => ?_, ?_⟩
  · refine ⟨_, canonicalChunks_getElem? hi, by omega, by omega, by omega, fun j hj => ?_⟩
    have hchunk : j < (chunkBytes m i).length := by rwa [length_chunkBytes]
    rw [getElem_chunkBytes hchunk, ofNat_natOfBytesLE_byte hchunk (by omega)]
  · rintro rfl
    rfl

end Sys2Proof.Machine
end

section
/-! PROOFS. The control commands (46_control.md): NOP and CLRST, each with one legal word. -/

namespace Sys2Proof.Machine

/-- Settles O16: NOP's effect, its word and its row. -/
theorem nopCommand : Obligations.NopCommand :=
  ⟨fun s => exec_nop s, fun _ _ => (matches_iff_decode (i := .nop) instrOf_nop).mp (by decide),
    fun w a b s hop hne => perform_of_ne_pattern (i := .nop) (c := ⟨w, a, b⟩) rfl hop hne s⟩

/-! ### CLRST (R201) -/

/-- ERR_O is the disjunction of the two bits (10_state.md R39), so clearing both takes it to 0. -/
@[simp] theorem State.clearStatus_errO (s : State) : s.clearStatus.ports.errO = 0 := rfl

theorem State.clearStatus_of_noRejection {s : State} (h : NoRejection s) : s.clearStatus = s := by
  rw [clearStatus, ← h]

/-- Settles O17: CLRST's effect, which leaves ERR_O at 0 and a state without rejection as it is, its word and its row. -/
theorem clrstCommand : Obligations.ClrstCommand := by
  refine ⟨fun s => exec_clrst s, fun s => ⟨_, exec_clrst s, s.clearStatus_errO⟩, fun s hs => ?_,
    fun a b => (matches_iff_decode (i := .clrst) instrOf_clrst).mp (by decide),
    fun w a b s hop hne => perform_of_ne_pattern (i := .clrst) (c := ⟨w, a, b⟩) rfl hop hne s⟩
  rw [exec_clrst, State.clearStatus_of_noRejection hs]

end Sys2Proof.Machine
end

section
/-! PROOFS. The rejections (60_exceptions.md): a command is rejected with ILL, rejected with NOST or accepted, in the order
of R224; a rejection sets one STATUS bit (R221), and no command's effect on the other registers depends on STATUS. -/

namespace Sys2Proof.Machine

/-! ### The three ways a command can go (R224) -/

/-- An accepted command reports nothing, whatever its operands (R220). -/
theorem exec_status_of_accepted {i : Instr} {s t : State} (hi : ReadsGenerator i → s.stateValid = true)
    (hc : i ≠ .clrst) (h : exec i s = .next t) : t.status = s.status :=
  (exec_frame h).status hc fun ⟨hg, hv⟩ => Bool.false_ne_true (hv.symm.trans (hi hg))

theorem exec_accepted_keeps_status {i : Instr} {s : State} (hi : ReadsGenerator i → s.stateValid = true)
    (hc : i ≠ .clrst) : ∃ t, exec i s = .next t ∧ t.status = s.status := by
  obtain ⟨t, ht⟩ := exec_completes i s
  exact ⟨t, ht, exec_status_of_accepted hi hc ht⟩

/-- What a performed command leaves in STATUS, by the check it fails first. -/
theorem perform_status_cases {c : Command} {s t : State} (h : perform c s = .next t) :
    (IllegalWord c.cmd ∧ t.status = s.status.raise .ill) ∨
    (∃ i, decode c = .ok i ∧ ReadsGenerator i ∧ s.stateValid = false ∧ t.status = s.status.raise .nost) ∨
    (∃ i, decode c = .ok i ∧ (ReadsGenerator i → s.stateValid = true) ∧
      (t.status = s.status ∨ t.status = Status.clear)) := by
  rcases perform_cases h with ⟨he, rfl⟩ | ⟨i, hd, hi⟩
  · exact .inl ⟨decode_eq_error_iff_illegalWord.mp he, rfl⟩
  · by_cases hr : ReadsGenerator i ∧ s.stateValid = false
    · obtain ⟨hg, hv⟩ := hr
      cases (exec_of_not_valid hg hv).symm.trans hi
      exact .inr (.inl ⟨i, hd, hg, hv, rfl⟩)
    · have hacc : ReadsGenerator i → s.stateValid = true := fun hg =>
        Bool.eq_true_of_not_eq_false (not_and.mp hr hg)
      refine .inr (.inr ⟨i, hd, hacc, ?_⟩)
      by_cases hc : i = .clrst
      · subst hc
        cases hi
        exact .inr rfl
      · exact .inl (exec_status_of_accepted hacc hc hi)

/-! ### STATUS has no effect on a command (R221, R227) -/

theorem exec_ignores_status (i : Instr) (s : State) (st : Status) : ∃ t u,
    exec i s = .next t ∧ exec i { s with status := st } = .next u ∧ { u with status := t.status } = t := by
  cases i with
  | step | draw | mix | jump =>
    simp only [exec_step, exec_draw, exec_mix, exec_jump]
    exact State.whenConstructed_related rfl rfl rfl
  | nop | load | seedInit | seedAbsorb | seedFinal | clrst => exact ⟨_, _, rfl, rfl, rfl⟩

theorem perform_ignores_status (c : Command) (s : State) (st : Status) : ∃ t u,
    perform c s = .next t ∧ perform c { s with status := st } = .next u ∧ { u with status := t.status } = t := by
  cases hd : decode c with
  | error e => exact ⟨_, _, perform_of_error hd s, perform_of_error hd _, rfl⟩
  | ok i =>
    simp only [perform_of_ok hd]
    exact exec_ignores_status i s st

/-- Settles O29: the two rejections are `State.reject`, and no command reads STATUS. -/
theorem rejectionTouchesOneStatusBit : Obligations.RejectionTouchesOneStatusBit :=
  ⟨fun _ s h => perform_of_illegalWord h s, fun _ _ hi hv => exec_of_not_valid hi hv, perform_ignores_status⟩

/-! ### The causes (R222, R223) -/

/-- A 1 in bit 13, which R76 (b) reserves for every opcode, makes an illegal word of any opcode. -/
theorem exists_illegalWord_of_opcode (op : BitVec 8) : ∃ w : Word32, w.extractLsb' 0 8 = op ∧ IllegalWord w := by
  refine ⟨0x20#24 ++ op, BitVec.extractLsb'_append_eq_right, .inr (.inl fun h => ?_)⟩
  have hbit : (0x20#24 ++ op).getLsbD 13 = true := by
    rw [BitVec.getLsbD_append]
    rfl
  exact Bool.false_ne_true ((getLsbD_of_extractLsb'_eq_zero h (j := 0) (by decide)).symm.trans hbit)

theorem perform_sets_ill_iff {c : Command} {s t : State} (hs : s.status.ill = false) (h : perform c s = .next t) :
    t.status.ill = true ↔ IllegalWord c.cmd := by
  rcases perform_status_cases h with ⟨hw, ht⟩ | ⟨i, hd, _, _, ht⟩ | ⟨i, hd, _, ht | ht⟩
  · simp only [ht, Status.raise_ill, hw]
  all_goals
    have hw : ¬ IllegalWord c.cmd := not_illegalWord_of_decode_eq_ok hd
    simp [ht, hs, hw, Status.clear]

/-- Settles O30: the bit by the three cases of a command, and one rejection for all illegal words. -/
theorem illCause : Obligations.IllCause :=
  ⟨rfl, fun _ _ _ hs h => perform_sets_ill_iff hs h, exists_illegalWord_of_opcode,
    fun _ _ s hc hd => (perform_of_illegalWord hc s).trans (perform_of_illegalWord hd s).symm⟩

theorem perform_sets_nost_iff {c : Command} {s t : State} (hs : s.status.nost = false) (h : perform c s = .next t) :
    t.status.nost = true ↔ s.stateValid = false ∧ ∃ i, decode c = .ok i ∧ ReadsGenerator i := by
  rcases perform_status_cases h with ⟨hw, ht⟩ | ⟨i, hd, hg, hv, ht⟩ | ⟨i, hd, hacc, ht⟩
  · have hdec : ∀ i, decode c ≠ .ok i := fun i hd => not_illegalWord_of_decode_eq_ok hd hw
    simp [ht, hs, hdec]
  · simp only [ht, Status.raise_nost, true_iff]
    exact ⟨hv, i, hd, hg⟩
  · have hclear : t.status.nost = false := by rcases ht with ht | ht <;> simp [ht, hs, Status.clear]
    simp only [hclear, Bool.false_eq_true, false_iff, not_and]
    rintro hv ⟨j, hj, hg⟩
    obtain rfl : i = j := Except.ok.inj (hd.symm.trans hj)
    exact Bool.false_ne_true (hv.symm.trans (hacc hg))

/-- Settles O31: the bit by the three cases of a command, and one rejection for all generator commands. -/
theorem nostCause : Obligations.NostCause :=
  ⟨rfl, fun _ _ _ hs h => perform_sets_nost_iff hs h,
    fun _ _ hi hc => exec_accepted_keeps_status (fun hg => absurd hg hi) hc,
    fun _ _ _ hi hj hv => (exec_of_not_valid hi hv).trans (exec_of_not_valid hj hv).symm⟩

/-! ### The order of the checks (R224) -/

theorem perform_reports_at_most_one_cause {c : Command} {s t : State} (hs : s.status = ⟨false, false⟩)
    (h : perform c s = .next t) : t.status ≠ ⟨true, true⟩ := by
  rcases perform_status_cases h with ⟨_, ht⟩ | ⟨_, _, _, _, ht⟩ | ⟨_, _, _, ht | ht⟩ <;> simp [ht, hs, Status.clear]

/-- Settles O32: each of the three cases has its rule, and none sets two bits. -/
theorem checkOrder : Obligations.CheckOrder := by
  refine ⟨fun c s h => perform_of_illegalWord h s,
    fun c i s hd hi hv => (perform_of_ok hd s).trans (exec_of_not_valid hi hv), fun c i s hd hi => ?_,
    fun c s t hs h => perform_reports_at_most_one_cause hs h,
    fun a b => perform_of_illegalWord (c := ⟨0x00000102, a, b⟩) (show IllegalWord 0x00000102 by decide) State.reset⟩
  obtain ⟨t, ht⟩ := exec_completes i s
  exact ⟨perform_of_ok hd s, t, ht, fun hc => exec_status_of_accepted hi hc ht⟩

/-! ### Sticky bits (R227) -/

theorem Status.raise_keeps_bits (st : Status) (cause : Cause) :
    (st.ill = true → (st.raise cause).ill = true) ∧ (st.nost = true → (st.raise cause).nost = true) := by
  cases cause with
  | ill => exact ⟨fun _ => rfl, id⟩
  | nost => exact ⟨id, fun _ => rfl⟩

theorem State.reject_ill_of_ill {s : State} (h : s.status.ill = true) : s.reject .ill = s := by
  rw [reject, Status.raise_ill, ← h]

theorem State.reject_nost_of_nost {s : State} (h : s.status.nost = true) : s.reject .nost = s := by
  rw [reject, Status.raise_nost, ← h]

/-- Settles O33: only CLRST leaves anything but the same STATUS or one with a cause more; a second rejection with one cause
is idle, and no command reads STATUS. -/
theorem stickyStatus : Obligations.StickyStatus := by
  refine ⟨fun c s t hc h => ?_, exec_clrst, fun _ _ => rfl, fun c s hw hs => ?_, fun i s hi hv hs => ?_,
    perform_ignores_status⟩
  · rcases perform_status hc h with ht | ⟨cause, ht⟩ <;> rw [ht]
    · exact ⟨id, id⟩
    · exact s.status.raise_keeps_bits cause
  · rw [perform_of_illegalWord hw, State.reject_ill_of_ill hs]
  · rw [exec_of_not_valid hi hv, State.reject_nost_of_nost hs]

/-! ### No operand is rejected (R220, 10_state.md R37) -/

/-- Settles O34: an accepted command keeps STATUS, and after a LOAD every command is accepted. -/
theorem everyOperandAccepted : Obligations.EveryOperandAccepted := by
  refine ⟨fun _ _ hi hc => exec_accepted_keeps_status hi hc, fun v c sel i s hc => ?_⟩
  obtain ⟨u, hu, hst⟩ := exec_accepted_keeps_status (i := i) (s := s.construct v c (selectorOperand v sel))
    (fun _ => State.construct_stateValid ..) hc
  exact ⟨_, u, exec_load v c sel s, hu, hst.trans (State.construct_status ..)⟩

end Sys2Proof.Machine
end

section
/-! PROOFS. Reset and hazards (70_reset_and_hazards.md): every command completes (R245), and RST takes each register to its
reset value, from which the generator commands are rejected (R240). -/

namespace Sys2Proof.Machine

/-! ### Every accepted command completes (R245) -/

/-- Settles O4: the guard of the generator commands answers a next state either way, and so does an illegal word. -/
theorem everyCommandCompletes : Obligations.EveryCommandCompletes := ⟨exec_completes, perform_completes⟩

/-! ### RST (R240) -/

/-- An abandoned command has no effect: what reset leaves depends neither on it nor on any register. -/
theorem State.assertReset_congr {r s : State} (h : r.inputs = s.inputs) (p q : Option Command) :
    r.assertReset p = s.assertReset q := congrArg State.reset.withInputs h

/-- COUNTER and SELECTOR do not construct a state: only STATE_VALID lets a generator command through. -/
theorem exec_reset_of_readsGenerator {i : Instr} (hi : ReadsGenerator i) (c sel : Word128) :
    exec i { State.reset with counter := c, selector := sel } =
      .next { State.reset with counter := c, selector := sel, status := ⟨false, true⟩ } :=
  exec_of_not_valid hi rfl

/-- Settles O26: the registers by the definition of the reset state, whatever was abandoned, and STATE_VALID = 0 there. -/
theorem resetState : Obligations.ResetState :=
  ⟨fun _ p => ⟨rfl, rfl, rfl, rfl, rfl, rfl, Status.word_clear, rfl, rfl, rfl, rfl, State.assertReset_congr rfl p none⟩,
    fun _ c sel hi => exec_reset_of_readsGenerator hi c sel⟩

end Sys2Proof.Machine
end

section
/-! PROOFS. The round trip of the encoding (30_encoding.md): the command of an instruction decodes to it, and a legal word is
the only one of the command it decodes to (R70, R75). -/

namespace Sys2Proof

open Sys2Proof.Machine

/-! ### A word and its fields (R70) -/

theorem packWord_toNat (op : Word32) (v s : Bool) (nb : BitVec 3) : packWord op v s nb.toNat =
    op ||| ((BitVec.ofBool v).setWidth 32 <<< 8) ||| ((BitVec.ofBool s).setWidth 32 <<< 9) ||| (nb.setWidth 32 <<< 10) := by
  rw [packWord, BitVec.ofNat_toNat]

@[simp] theorem vField_packWord (op : BitVec 8) (v s : Bool) (nb : Nat) :
    vField (packWord (op.setWidth 32) v s nb) = v := by
  simp [vField, packWord]

@[simp] theorem sField_packWord (op : BitVec 8) (v s : Bool) (nb : Nat) :
    sField (packWord (op.setWidth 32) v s nb) = s := by
  simp [sField, packWord]

@[simp] theorem nbField_packWord (op : BitVec 8) (v s : Bool) (nb : BitVec 3) :
    nbField (packWord (op.setWidth 32) v s nb.toNat) = nb := by
  rw [packWord_toNat]
  ext i hi
  interval_cases i <;> simp [nbField]

/-- A word whose bits 31:13 are 0 is packed from its fields. -/
theorem eq_packWord_of_reserved_eq_zero {w : Word32} (h : w.extractLsb' 13 19 = 0) :
    w = packWord ((opField w).setWidth 32) (vField w) (sField w) (nbField w).toNat := by
  rw [packWord_toNat]
  refine BitVec.eq_of_getLsbD_eq fun i hi => ?_
  by_cases h13 : i < 13
  · interval_cases i <;> simp [opField, vField, sField, nbField]
  · obtain ⟨j, rfl⟩ := Nat.exists_eq_add_of_le' (not_lt.mp h13)
    have hw : w.getLsbD (j + 13) = false :=
      Nat.add_comm 13 j ▸ getLsbD_of_extractLsb'_eq_zero h (by omega)
    simp [hw]

@[simp] theorem variantOfBit_bit (v : Variant) : variantOfBit v.bit = v := by cases v <;> rfl

@[simp] theorem bit_variantOfBit (b : Bool) : (variantOfBit b).bit = b := by cases b <;> rfl

/-! ### Decode of encode -/

theorem encodeWord_matches_row {i : Instr} (h : i.WellFormed) : i.row.Matches (encodeWord i) := by
  cases i with
  | nop => exact Laws.EncodedInItsRow.nop h
  | load v c sel => exact Laws.EncodedInItsRow.load v c sel h
  | step => exact Laws.EncodedInItsRow.step h
  | draw => exact Laws.EncodedInItsRow.draw h
  | mix => exact Laws.EncodedInItsRow.mix h
  | jump e => exact Laws.EncodedInItsRow.jump e h
  | seedInit => exact Laws.EncodedInItsRow.seedInit h
  | seedAbsorb n x => exact Laws.EncodedInItsRow.seedAbsorb n x h
  | seedFinal v sel => exact Laws.EncodedInItsRow.seedFinal v sel h
  | clrst => exact Laws.EncodedInItsRow.clrst h

theorem exists_nb_of_wellFormed {n : Nat} {x : Word128} (h : (Instr.seedAbsorb n x).WellFormed) :
    ∃ nb : BitVec 3, n = nb.toNat + 1 := by
  simp only [Instr.WellFormed, Instr.wellFormed, Bool.and_eq_true, decide_eq_true_eq] at h
  exact ⟨BitVec.ofNat 3 (n - 1), by rw [BitVec.toNat_ofNat]; omega⟩

theorem instrOf_encode {i : Instr} (h : i.WellFormed) : instrOf (encode i) = .ok i := by
  obtain ⟨hop, -⟩ := Instr.row_matches_iff.mp (encodeWord_matches_row h)
  have hnum := congrArg BitVec.toNat hop
  cases i with
  | nop => exact instrOf_nop hnum
  | load v c sel =>
    have hv : vField (encodeWord (.load v c sel)) = v.bit := vField_packWord 0x01#8 v.bit false 0
    rw [encode, instrOf_load hnum, hv, variantOfBit_bit]
    rfl
  | step => exact instrOf_step hnum
  | draw => exact instrOf_draw hnum
  | mix => exact instrOf_mix hnum
  | jump e => exact instrOf_jump hnum
  | seedInit => exact instrOf_seedInit hnum
  | seedAbsorb n x =>
    obtain ⟨nb, rfl⟩ := exists_nb_of_wellFormed h
    have hnb : nbField (encodeWord (.seedAbsorb (nb.toNat + 1) x)) = nb := nbField_packWord 0x07#8 false false nb
    rw [encode, instrOf_seedAbsorb hnum, hnb]
    rfl
  | seedFinal v sel =>
    have hv : vField (encodeWord (.seedFinal v sel)) = v.bit := vField_packWord 0x08#8 v.bit sel.isSome 0
    have hs : sField (encodeWord (.seedFinal v sel)) = sel.isSome := sField_packWord 0x08#8 v.bit sel.isSome 0
    rw [encode, instrOf_seedFinal hnum, hv, hs, variantOfBit_bit]
    cases sel <;> rfl
  | clrst => exact instrOf_clrst hnum

/-- Settles O10: the word lies in the instruction's row, and its fields and operands are the instruction's. -/
theorem decodeOfEncode : Obligations.DecodeOfEncode := fun _ h =>
  decode_eq_ok_iff_matches.mpr ⟨encodeWord_matches_row h, instrOf_encode h⟩

/-! ### Encode of decode -/

theorem wellFormed_of_decode {c : Command} {i : Instr} (h : decode c = .ok i) : i.WellFormed := by
  obtain ⟨-, hi⟩ := decode_eq_ok_iff_matches.mp h
  have hnb : (nbField c.cmd).toNat + 1 ≤ 8 := (nbField c.cmd).isLt
  unfold instrOf at hi
  split at hi <;> cases hi
  case h_8 => simpa [Instr.WellFormed, Instr.wellFormed] using hnb
  all_goals rfl

/-- A field that R71, R72 or R74 does not give to the opcode is 0 in a legal word. -/
theorem fields_of_not_illegalWord {w : Word32} (h : ¬ IllegalWord w) :
    ((opField w).toNat ≠ 0x01 → (opField w).toNat ≠ 0x08 → vField w = false) ∧
    ((opField w).toNat ≠ 0x08 → sField w = false) ∧ ((opField w).toNat ≠ 0x07 → nbField w = 0#3) := by
  simp only [IllegalWord, not_or, not_and, not_not] at h
  obtain ⟨-, -, hv, hs, hnb⟩ := h
  exact ⟨fun h1 h8 => Bool.eq_false_iff.mpr fun hb => h8 (hv hb h1), fun h8 => Bool.eq_false_iff.mpr fun hb => h8 (hs hb),
    fun h7 => of_not_not fun h0 => h7 (hnb h0)⟩

theorem isSome_ite_some_none (b : Bool) (x : Word128) : (if b then some x else none).isSome = b := by
  cases b <;> rfl

/-- The instruction holds the fields its opcode uses, and the others are 0, so it gives back the whole word. -/
theorem encodeWord_of_decode {c : Command} {i : Instr} (h : decode c = .ok i) : encodeWord i = c.cmd := by
  have hw := not_illegalWord_of_decode_eq_ok h
  have hres : c.cmd.extractLsb' 13 19 = 0 := of_not_not fun hr => hw (.inr (.inl hr))
  obtain ⟨hv, hs, hnb⟩ := fields_of_not_illegalWord hw
  obtain ⟨-, hi⟩ := decode_eq_ok_iff_matches.mp h
  rw [eq_packWord_of_reserved_eq_zero hres, ← BitVec.ofNat_toNat]
  unfold instrOf at hi
  split at hi <;> cases hi <;> rename_i hop <;> rw [hop] at hv hs hnb ⊢
  all_goals simp [encodeWord, hv, hs, hnb, isSome_ite_some_none]

/-- An opcode has one row of the table. -/
theorem opcodeTable_unique : ∀ r ∈ opcodeTable, ∀ r' ∈ opcodeTable,
    r.pattern.setWidth 8 = r'.pattern.setWidth 8 → r = r' := by decide

theorem row_eq_of_matches {i j : Instr} {w : Word32} (hi : i.row.Matches w) (hj : j.row.Matches w) : i.row = j.row := by
  obtain ⟨hopi, -⟩ := Instr.row_matches_iff.mp hi
  obtain ⟨hopj, -⟩ := Instr.row_matches_iff.mp hj
  exact opcodeTable_unique _ (mem_opcodeTable_iff.mpr ⟨i, rfl⟩) _ (mem_opcodeTable_iff.mpr ⟨j, rfl⟩)
    (hopi.symm.trans hopj)

/-- Settles O11: the word by `encodeWord_of_decode`; both commands decode to the instruction, so both are performed as it;
and two rows that match a word share its opcode. -/
theorem encodeOfDecode : Obligations.EncodeOfDecode := by
  refine ⟨fun c i h => ?_, fun w r hr r' hr' hm hm' => ?_⟩
  · have hwf := wellFormed_of_decode h
    refine ⟨hwf, encodeWord_of_decode h, fun s => ?_⟩
    rw [perform_of_ok (decodeOfEncode i hwf), perform_of_ok h]
  · obtain ⟨i, rfl⟩ := mem_opcodeTable_iff.mp hr
    obtain ⟨j, rfl⟩ := mem_opcodeTable_iff.mp hr'
    exact row_eq_of_matches hm hm'

/-- Settles O15: six words that decode, one with a reserved bit and one with a reserved opcode. -/
theorem sampleWords : Obligations.SampleWords := by
  unfold Obligations.SampleWords
  decide

end Sys2Proof
end

section
/-! PROOFS. The step (70_reset_and_hazards.md section 3): which event it takes, a program as the list of its commands, and the
invariant of every run (10_state.md R20, R23, R25). -/

namespace Sys2Proof.Machine

/-! ### One event (R240, R243) -/

theorem step_of_no_event {s : State} (h : s.inputs = []) : step s = .next s := by
  simp only [step, acceptNext, h]

theorem step_of_command {s : State} {c : Command} {rest : List HostEvent} (h : s.inputs = .command c :: rest) :
    step s = perform c (s.withInputs rest) := by
  simp only [step, acceptNext, h]

theorem step_of_reset {s : State} {p : Option Command} {rest : List HostEvent} (h : s.inputs = .reset p :: rest) :
    step s = .next ((s.withInputs rest).assertReset p) := by
  simp only [step, acceptNext, h]

theorem step_completes (s : State) : ∃ t, step s = .next t := by
  cases h : s.inputs with
  | nil => exact ⟨s, step_of_no_event h⟩
  | cons ev rest =>
    cases ev with
    | command c => rw [step_of_command h]; exact perform_completes c _
    | reset p => exact ⟨_, step_of_reset h⟩

/-- Settles O1: only a well-formed instruction is decoded, and performing its command is exec of it. -/
theorem stepRunsDecodedCommand : Obligations.StepRunsDecodedCommand := fun _ _ _ _ hs hd =>
  ⟨wellFormed_of_decode hd, (step_of_command hs).trans (perform_of_ok hd _)⟩

/-- Settles O2: the step by the event it takes, an illegal word being rejected with ILL. -/
theorem stepTakesOneEvent : Obligations.StepTakesOneEvent :=
  ⟨fun _ => step_of_no_event, fun _ _ _ => step_of_reset,
    fun _ _ _ hs hw => (step_of_command hs).trans (perform_of_illegalWord hw _), step_completes⟩

/-! ### A program is the list of its commands (20_memory.md R55) -/

/-- No command reads the events to come or touches them. -/
theorem exec_withInputs {i : Instr} {s t : State} (h : exec i s = .next t) (evs : List HostEvent) :
    exec i (s.withInputs evs) = .next (t.withInputs evs) := by
  cases i with
  | step | draw | mix | jump =>
    simp only [exec_step, exec_draw, exec_mix, exec_jump, State.whenConstructed_eq_next] at h ⊢
    rcases h with ⟨hv, rfl⟩ | ⟨hv, rfl⟩
    · exact .inl ⟨hv, rfl⟩
    · exact .inr ⟨hv, rfl⟩
  | nop | load | seedInit | seedAbsorb | seedFinal | clrst => cases h; rfl

theorem exec_keeps_inputs {i : Instr} {s t : State} (h : exec i s = .next t) : t.inputs = s.inputs := by
  have ht : exec i s = .next (t.withInputs s.inputs) := exec_withInputs h s.inputs
  exact (congrArg State.inputs (Host.Outcome.next.inj (ht.symm.trans h))).symm

theorem run_succ_of_step {M : Host.Core} {s t : M.State} (h : M.step s = .next t) (n : Nat) :
    M.run (n + 1) s = M.run n t := by
  rw [Host.Core.run, h]

theorem step_of_encode {i : Instr} (hi : i.WellFormed) {s : State} {rest : List HostEvent}
    (h : s.inputs = .command (encode i) :: rest) : step s = exec i (s.withInputs rest) :=
  (step_of_command h).trans (perform_of_ok (decodeOfEncode i hi) _)

/-- Each step takes one command of the list, and leaves the others and the later events as they are. -/
theorem core_run_eq_execAll {is : List Instr} (his : ∀ i ∈ is, i.WellFormed) {s : State} {rest : List HostEvent}
    (h : s.inputs = is.map (fun i => .command (encode i)) ++ rest) :
    Host.Core.run core is.length s = execAll is (s.withInputs rest) := by
  induction is generalizing s with
  | nil =>
    obtain rfl : s.inputs = rest := h
    rfl
  | cons i is ih =>
    obtain ⟨hi, his⟩ := List.forall_mem_cons.mp his
    obtain ⟨t, ht⟩ := exec_completes i s
    have hstep := (step_of_encode hi h).trans (exec_withInputs ht _)
    rw [List.length_cons, run_succ_of_step (M := core) hstep, ih his rfl, execAll_cons (exec_withInputs ht rest)]
    rfl

/-- Settles O3: induction on the list, a step a command; and no command touches the events to come. -/
theorem runIsSequential : Obligations.RunIsSequential :=
  ⟨fun _ _ _ his h => core_run_eq_execAll his h, fun _ _ _ => exec_keeps_inputs⟩

/-! ### The invariant (10_state.md R20, R23, R25) -/

/-- While STATE_VALID stays 0 no command has constructed, a generator command was rejected, and no other writes COUNTER or
OUT. -/
theorem exec_keeps_unconstructedAtReset {i : Instr} {s t : State} (hs : UnconstructedAtReset s)
    (h : exec i s = .next t) : UnconstructedAtReset t := by
  intro hv
  by_cases hi : Constructs i
  · obtain ⟨u, hu, huv⟩ := exec_constructs_sets_stateValid hi s
    cases hu.symm.trans h
    exact absurd (huv.symm.trans hv) Bool.true_eq_false.mp
  · have frame := exec_frame h
    have hsv : s.stateValid = false := (frame.stateValid hi).symm.trans hv
    by_cases hr : ReadsGenerator i
    · cases (exec_of_not_valid hr hsv).symm.trans h
      exact hs hsv
    · have hne {j : Instr} (hj : ReadsGenerator j) : i ≠ j := fun he => hr (he ▸ hj)
      rw [frame.counter (hne rfl) (hne rfl) (fun _ => hne rfl) hi, frame.selector hi, frame.variant hi,
        frame.out (hne rfl) (hne rfl)]
      exact hs hsv

theorem exec_keeps_runInvariant {i : Instr} {s t : State} (hs : RunInvariant s) (h : exec i s = .next t) :
    RunInvariant t :=
  ⟨exec_keeps_narrowSelectorZero hs.narrowSelectorZero h, exec_keeps_unconstructedAtReset hs.unconstructedAtReset h⟩

theorem perform_keeps_runInvariant {c : Command} {s t : State} (hs : RunInvariant s) (h : perform c s = .next t) :
    RunInvariant t := by
  rcases perform_cases h with ⟨_, rfl⟩ | ⟨i, _, hi⟩
  · exact ⟨hs.narrowSelectorZero, hs.unconstructedAtReset⟩
  · exact exec_keeps_runInvariant hs hi

/-- The invariant is about registers, not about the events to come. -/
theorem withInputs_keeps_runInvariant {s : State} (hs : RunInvariant s) (evs : List HostEvent) :
    RunInvariant (s.withInputs evs) :=
  ⟨hs.narrowSelectorZero, hs.unconstructedAtReset⟩

/-- Settles O6: after reset SELECTOR is 0, and so are COUNTER and OUT. -/
theorem invariantHoldsAtReset : Obligations.InvariantHoldsAtReset :=
  ⟨fun _ => by decide, fun _ => ⟨rfl, rfl, rfl, rfl⟩⟩

/-- Settles O5: waiting changes nothing, a command by its effect on the registers, and RST leaves the reset state. -/
theorem invariantKeptByEveryStep : Obligations.InvariantKeptByEveryStep := by
  intro s t hs h
  rcases acceptNext_cases h with ⟨_, rfl⟩ | ⟨c, rest, _, hc⟩ | ⟨p, rest, _, rfl⟩
  · exact hs
  · exact perform_keeps_runInvariant (withInputs_keeps_runInvariant hs rest) hc
  · exact withInputs_keeps_runInvariant invariantHoldsAtReset rest

/-! ### The ports (10_state.md section 3) -/

theorem Status.word_ill (st : Status) : st.word.getLsbD 0 = st.ill := by simp [Status.word]

theorem Status.word_nost (st : Status) : st.word.getLsbD 1 = st.nost := by simp [Status.word]

/-- ERR_O is the or of the word's two used bits (R39). -/
theorem Status.err_eq (st : Status) :
    BitVec.ofBool st.err = st.word.extractLsb' 0 1 ||| st.word.extractLsb' 1 1 := by
  obtain ⟨i, n⟩ := st
  cases i <;> cases n <;> decide

/-- Settles O27: each port by the register it shows; ERR_O and STATUS_O by the two bits of STATUS. -/
theorem portsShowState : Obligations.PortsShowState := by
  refine fun s => ⟨rfl, rfl, ?_, ?_, rfl, s.status.word_ill, s.status.word_nost, s.status.err_eq, rfl⟩
  · cases hv : s.variant <;> simp only [State.ports, hv] <;> rfl
  · cases hv : s.stateValid <;> simp only [State.ports, hv] <;> rfl

end Sys2Proof.Machine
end

section
/-! PROOFS. The stepper's datapath (42_stepper.md R122), the full period of the step (R127), and the laws of affine maps and,
by the period, of the jump (44_jump.md R160, R166). -/

namespace Sys2Proof.Machine

/-- Settles O44: the laws are the lemmas about `AffineMap.compose`. -/
theorem affineMonoid : Obligations.AffineMonoid :=
  ⟨AffineMap.compose_apply, AffineMap.compose_assoc, fun f => ⟨f.one_compose, f.compose_one⟩, AffineMap.one_apply⟩

/-! ### The datapath (R122) -/

theorem two_pow_64_toNat : ((2 : Word128) ^ 64).toNat = 2 ^ 64 := BitVec.toNat_pow 2 64

theorem two_pow_128_eq_zero : (2 : Word128) ^ 128 = 0 := BitVec.eq_of_toNat_eq (BitVec.toNat_pow 2 128)

/-- The shift of a half into the upper half, as a product in the ring of 128-bit words. -/
theorem zext128_shiftLeft (x : Word64) : zext128 x <<< 64 = 2 ^ 64 * zext128 x :=
  BitVec.eq_of_toNat_eq (by rw [BitVec.toNat_shiftLeft, BitVec.toNat_mul, two_pow_64_toNat, Nat.shiftLeft_eq, mul_comm])

theorem eq_halves (c : Word128) : c = 2 ^ 64 * zext128 (hi64 c) + zext128 (lo64 c) := by
  have hc := c.isLt
  refine BitVec.eq_of_toNat_eq ?_
  rw [BitVec.toNat_add, BitVec.toNat_mul, two_pow_64_toNat, zext128_toNat, zext128_toNat, hi64_toNat, lo64_toNat]
  omega

/-- The low product of 64-bit words is enough for the upper half. -/
theorem two_pow_mul_zext128_mul (x y : Word64) : 2 ^ 64 * zext128 (x * y) = 2 ^ 64 * (zext128 x * zext128 y) := by
  refine BitVec.eq_of_toNat_eq ?_
  rw [BitVec.toNat_mul, BitVec.toNat_mul, two_pow_64_toNat, BitVec.toNat_mul, zext128_toNat, zext128_toNat,
    zext128_toNat, BitVec.toNat_mul]
  omega

theorem wmul64_eq (x y : Word64) : wmul64 x y = zext128 x * zext128 y :=
  BitVec.eq_of_toNat_eq (by
    rw [wmul64_toNat, BitVec.toNat_mul, zext128_toNat, zext128_toNat, Nat.mod_eq_of_lt (toNat_mul_toNat_lt x y)])

/-- The multiplier mod 2^128 by its parameters. -/
theorem stepMap_mul_eq (k : Config) (inc : Word128) :
    (stepMap k inc).mul = 2 ^ 64 * k.multX.setWidth 128 + zext128 k.multLo := by
  have h64 : BitVec.ofNat 128 (2 ^ 64) = 2 ^ 64 := BitVec.eq_of_toNat_eq two_pow_64_toNat.symm
  rw [stepMap, Config.multiplier, BitVec.ofNat_add, BitVec.ofNat_mul, BitVec.ofNat_toNat, BitVec.ofNat_toNat, h64, zext128]

/-- The term of the multiplier's extra bit, which is the low half of the counter or 0. -/
theorem extraBitTerm_eq (x : BitVec 1) (lo : Word64) :
    (if x = 1#1 then zext128 lo <<< 64 else 0#128) = 2 ^ 64 * (x.setWidth 128 * zext128 lo) := by
  obtain rfl | rfl : x = 0#1 ∨ x = 1#1 := BitVec.eq_zero_or_eq_one x
  · simp
  · simp [zext128_shiftLeft]

/-- The datapath as a sum of products in the ring of 128-bit words. -/
theorem stepDatapath_eq (k : Config) (inc c : Word128) : stepDatapath k inc c =
    zext128 k.multLo * zext128 (lo64 c) + 2 ^ 64 * (zext128 k.multLo * zext128 (hi64 c)) +
      2 ^ 64 * (k.multX.setWidth 128 * zext128 (lo64 c)) + inc := by
  rw [← extraBitTerm_eq, ← two_pow_mul_zext128_mul, ← zext128_shiftLeft, ← wmul64_eq, stepDatapath]

/-- Settles O41: of the product of multiplier and counter, each cut into halves, the datapath leaves out only that of the
extra bit and the upper half, a multiple of 2^128. -/
theorem datapathComputesStep : Obligations.DatapathComputesStep := by
  intro k inc c
  have hstep : stepCounter k inc c = (2 ^ 64 * k.multX.setWidth 128 + zext128 k.multLo) * c + inc := by
    rw [← stepMap_apply, ← stepMap_mul_eq k inc]
    rfl
  have hc := eq_halves c
  rw [stepDatapath_eq, hstep]
  linear_combination -(2 ^ 64 * k.multX.setWidth 128 + zext128 k.multLo) * hc -
    (k.multX.setWidth 128 * zext128 (hi64 c)) * two_pow_128_eq_zero

/-! ### The full period (R127) -/

/-- Squaring a map with multiplier 1 mod 4 and odd increment n times makes its multiplier 1 mod 2^(n+2) and its increment an
odd multiple of 2^n. -/
theorem AffineMap.iterate_compose_two_pow_of_mul_of_add {S : AffineMap} {a d : Word128} (hm : S.mul = 4 * a + 1)
    (hd : S.add = 2 * d + 1) (n : Nat) :
    ∃ a b : Word128, S.compose^[2 ^ n] AffineMap.one = ⟨2 ^ (n + 2) * a + 1, 2 ^ n * (2 * b + 1)⟩ := by
  induction n with
  | zero =>
    refine ⟨a, d, ?_⟩
    rw [pow_zero, Function.iterate_one, compose_one, pow_zero, one_mul, ← hd, zero_add]
    have h4 : (2 : Word128) ^ 2 = 4 := by decide
    rw [h4, ← hm]
  | succ n ih =>
    obtain ⟨a, b, hab⟩ := ih
    refine ⟨a + 2 ^ (n + 1) * a ^ 2, b + 2 ^ n * a * (2 * b + 1), ?_⟩
    rw [pow_succ 2 n, Nat.mul_two, iterate_compose_add, hab, compose, AffineMap.mk.injEq]
    constructor <;> ring

theorem eq_two_mul_add_one_of_lsb {x : Word128} (h : x.getLsbD 0 = true) : ∃ d, x = 2 * d + 1 := by
  refine ⟨x >>> 1, ?_⟩
  have hx := x.isLt
  have h1 : (1 : Word128).toNat = 1 := rfl
  have h2 : (2 : Word128).toNat = 2 := rfl
  have hodd : x.toNat % 2 = 1 := by simpa [BitVec.getLsbD, Nat.testBit_zero] using h
  refine BitVec.eq_of_toNat_eq ?_
  rw [BitVec.toNat_add, BitVec.toNat_mul, BitVec.toNat_ushiftRight, Nat.shiftRight_eq_div_pow, h1, h2]
  omega

section
variable {k : Config} (hk : k.MultiplierOk) {inc : Word128} (hinc : inc.getLsbD 0 = true)
include hk

/-- R6 makes the multiplier 1 mod 4. -/
theorem stepMap_mul_eq_four_mul_add_one : ∃ a, (stepMap k inc).mul = 4 * a + 1 := by
  obtain ⟨m, hm⟩ : ∃ m, k.multiplier = 4 * m + 1 := by
    rw [Config.MultiplierOk] at hk
    refine ⟨k.multiplier / 4, ?_⟩
    rw [Config.multiplier]
    omega
  refine ⟨BitVec.ofNat 128 m, ?_⟩
  rw [stepMap, hm, BitVec.ofNat_add, BitVec.ofNat_mul]
  rfl

include hinc

/-- Half the period moves every counter by 2^127. -/
theorem iterate_stepCounter_half_period (c : Word128) : (stepCounter k inc)^[2 ^ 127] c = c + 2 ^ 127 := by
  obtain ⟨a, hm⟩ := stepMap_mul_eq_four_mul_add_one (inc := inc) hk
  obtain ⟨d, hd⟩ := eq_two_mul_add_one_of_lsb hinc
  obtain ⟨a, b, hab⟩ := AffineMap.iterate_compose_two_pow_of_mul_of_add hm hd 127
  rw [← stepMap_apply, ← AffineMap.iterate_compose_apply, hab, AffineMap.apply]
  linear_combination (2 * a * c + b) * two_pow_128_eq_zero

theorem minimalPeriod_stepCounter (c : Word128) : Function.minimalPeriod (stepCounter k inc) c = 2 ^ 128 := by
  have : Fact (Nat.Prime 2) := ⟨Nat.prime_two⟩
  refine Function.minimalPeriod_eq_prime_pow (k := 127) (fun h => ?_) ?_
  · have hsum : c + 2 ^ 127 = c := (iterate_stepCounter_half_period hk hinc c).symm.trans h
    have hnum : (2 : Word128) ^ 127 = 0 := add_eq_left.mp hsum
    have htoNat := (BitVec.toNat_pow 2 127).symm.trans (congrArg BitVec.toNat hnum)
    exact absurd htoNat (by decide)
  · exact congrFun (iterate_stepCounter_of_dvd hk inc dvd_rfl) c

/-- The counters that 0, 1, ..., 2^128 - 1 steps reach are pairwise different, so they are all counters. -/
theorem exists_iterate_stepCounter_eq (c d : Word128) : ∃ n < 2 ^ 128, (stepCounter k inc)^[n] c = d := by
  have hmem (e : Word128) : e.toNat ∈ Set.Iio (Function.minimalPeriod (stepCounter k inc) c) :=
    (minimalPeriod_stepCounter hk hinc c).symm ▸ e.isLt
  have hinj : Function.Injective fun e : Word128 => (stepCounter k inc)^[e.toNat] c := fun e f h =>
    BitVec.eq_of_toNat_eq (Function.iterate_injOn_Iio_minimalPeriod (hmem e) (hmem f) h)
  obtain ⟨e, he⟩ := Finite.surjective_of_injective hinj d
  exact ⟨e.toNat, e.isLt, he⟩

end

theorem bijective_of_iterate_succ_eq_id {α : Type} {f : α → α} {n : Nat} (h : f^[n + 1] = id) : Function.Bijective f :=
  Function.bijective_iff_has_inverse.mpr ⟨f^[n], fun x => by rw [← Function.iterate_succ_apply, h, id],
    fun x => by rw [← Function.iterate_succ_apply' f, h, id]⟩

/-- Settles O43: the full period undoes a step, as many steps as any multiple of it return, and within one period every
counter is reached. -/
theorem fullPeriod : Obligations.FullPeriod := by
  intro k inc hk hinc
  have hperiod : (stepCounter k inc)^[2 ^ 128 - 1 + 1] = id := iterate_stepCounter_of_dvd hk inc dvd_rfl
  refine ⟨bijective_of_iterate_succ_eq_id hperiod, fun c n => ?_, exists_iterate_stepCounter_eq hk hinc⟩
  rw [← minimalPeriod_stepCounter hk hinc c, ← Function.isPeriodicPt_iff_minimalPeriod_dvd]
  rfl

/-! ### The laws of the jump (R166) -/

/-- Only the count mod 2^128 matters. -/
theorem State.iterate_stepped_mod {k : Config} (hk : k.MultiplierOk) (n : Nat) (s : State) :
    (State.stepped · k)^[n % 2 ^ 128] s = (State.stepped · k)^[n] s :=
  Function.IsPeriodicPt.iterate_mod_apply (f := (State.stepped · k)) (iterate_stepped_of_dvd hk dvd_rfl s) n

theorem execAll_jump_jump {s : State} (hv : s.stateValid = true) (d e : Word128) :
    execAll [.jump d, .jump e] s = exec (.jump (d + e)) s := by
  have hv' := (State.iterate_stepped_stateValid config d.toNat s).trans hv
  rw [execAll_pair (exec_jump_eq_iterate_stepped hv d), exec_jump_eq_iterate_stepped hv', exec_jump_eq_iterate_stepped hv,
    ← Function.iterate_add_apply, BitVec.toNat_add, State.iterate_stepped_mod config_multiplierOk, Nat.add_comm]

/-- Settles O48: jumps are iterated steps, which add up mod the period. -/
theorem jumpLaws : Obligations.JumpLaws := by
  intro s hv
  have hzero : exec (.jump 0) s = .next s := exec_jump_eq_iterate_stepped hv 0
  refine ⟨execAll_jump_jump hv, fun d => ?_, fun d e hde => ?_, fun n c hn => ?_⟩
  · rw [execAll_jump_jump hv, BitVec.add_right_neg]
    exact hzero
  · have h0 : d + e = 0 := BitVec.eq_of_toNat_eq (by rw [BitVec.toNat_add, hde]; rfl)
    rw [execAll_jump_jump hv, h0, hzero]
  · rw [AffineMap.iterate_compose_apply, stepMap_apply, iterate_stepCounter_of_dvd config_multiplierOk _ hn, id]

end Sys2Proof.Machine
end

section
/-! PROOFS. The output hash (43_output_hash.md): fmix64 as the rule's formula and as a bijection (R144), the equidistribution
of the reference hashes (R140, R146), and what folding SELECTOR[127:64] into the wide hash does (R125, R145). -/

namespace Sys2Proof.Machine

/-! ### fmix64 (R144) -/

theorem ofNat_mul_toNat (a : Nat) (x : Word64) : BitVec.ofNat 64 (a * x.toNat) = BitVec.ofNat 64 a * x := by
  rw [BitVec.ofNat_mul, BitVec.ofNat_toNat, BitVec.setWidth_eq]

theorem fmix64_bijective : Function.Bijective fmix64 := Finite.injective_iff_bijective.mp fmix64_injective

@[simp] theorem fmix64_zero : fmix64 0#64 = 0#64 := by decide

/-- Settles O49: the products mod 2^64 are products of words, and an injection of the finitely many words is a bijection. -/
theorem fmix64Bijective : Obligations.Fmix64Bijective := by
  refine ⟨fun z => ?_, fmix64_bijective, fmix64_zero⟩
  simp only [ofNat_mul_toNat]
  rfl

/-! ### Equidistribution (R140, R146) -/

@[simp] theorem hi64_join64 (hi lo : Word64) : hi64 (join64 hi lo) = hi := BitVec.extractLsb'_append_eq_left

theorem join64_hi64_lo64 (c : Word128) : join64 (hi64 c) (lo64 c) = c := BitVec.extractLsb'_append_extractLsb'

/-- A hash that mixes the upper half of the counter with any function of the lower one takes each value once for each
lower half. -/
theorem card_fmix64_hi64_xor_eq (g : Word64 → Word64) (o : Word64) :
    Nat.card { c : Word128 // fmix64 (hi64 c ^^^ g (lo64 c)) = o } = 2 ^ 64 := by
  have hbij : Function.Bijective fun c : { c : Word128 // fmix64 (hi64 c ^^^ g (lo64 c)) = o } => lo64 c.val := by
    constructor
    · rintro ⟨c, hc⟩ ⟨d, hd⟩ (h : lo64 c = lo64 d)
      have hmix := fmix64_injective (hc.trans hd.symm)
      rw [h, BitVec.xor_left_inj] at hmix
      rw [Subtype.mk.injEq, ← join64_hi64_lo64 c, hmix, h, join64_hi64_lo64]
    · intro lo
      obtain ⟨z, hz⟩ := fmix64_bijective.surjective o
      refine ⟨⟨join64 (z ^^^ g lo) lo, ?_⟩, lo64_join64 _ _⟩
      rw [hi64_join64, lo64_join64, BitVec.xor_assoc, BitVec.xor_self, BitVec.xor_zero, hz]
  rw [Nat.card_eq_of_bijective _ hbij, Nat.card_congr BitVec.equivFin.toEquiv, Nat.card_fin]

theorem reference_equidistributed : Config.reference.Equidistributed :=
  ⟨card_fmix64_hi64_xor_eq fmix64, fun t => card_fmix64_hi64_xor_eq fun lo => fmix64 (lo ^^^ t)⟩

theorem reference_incrementOdd : Config.reference.IncrementOdd := fun v s => by
  have hodd := reference_inc_odd v s
  simpa [BitVec.getLsbD, Nat.testBit_zero] using hodd

/-- Settles O51: the three constraints by the lemmas above. -/
theorem referenceContractHolds : Obligations.ReferenceContractHolds :=
  ⟨config_multiplierOk, reference_incrementOdd, reference_equidistributed⟩

/-! ### SELECTOR[127:64] in the wide hash (R125, R145) -/

/-- With SELECTOR[127:64] = 0 the two variants have one increment. -/
theorem reference_inc_wide_eq_narrow {s : Word128} (h : hi64 s = 0) :
    Config.reference.inc .wide s = Config.reference.inc .narrow s := by
  have hs : (s.extractLsb' 0 64).setWidth 128 = s := zext128_lo64_of_hi64_eq_zero h
  rw [(reference_inc s).1, (reference_inc s).2, hs]

section
variable {s : State} (hw : s.variant = .wide) (h : hi64 s.selector = 0)
include hw h

theorem State.increment_wide_eq_narrow : s.increment config = { s with variant := .narrow }.increment config := by
  simp only [increment, hw]
  exact reference_inc_wide_eq_narrow h

theorem State.hash_wide_eq_narrow : s.hash config = { s with variant := .narrow }.hash config := by
  funext c
  simp only [hash, hw, h]
  exact reference_hashWide_zero c

theorem State.drawn_wide_eq_narrow : (s.drawn config).out = ({ s with variant := .narrow }.drawn config).out ∧
    (s.drawn config).counter = ({ s with variant := .narrow }.drawn config).counter := by
  have htap : s.tap config = .post := by rw [tap, hw]; rfl
  have htap' : { s with variant := .narrow }.tap config = .post := rfl
  rw [drawn_out, drawn_out, drawWord_of_tap_post htap, drawWord_of_tap_post htap', drawn_counter, drawn_counter,
    increment_wide_eq_narrow hw h, hash_wide_eq_narrow hw h]
  exact ⟨rfl, rfl⟩

end

/-- A counter whose upper half is 0 and whose lower half is what the hash folds in is hashed to 0. -/
theorem reference_hash_eq_zero {c : Word128} (hhi : hi64 c = 0) :
    (lo64 c = 0 → Config.reference.hashNarrow c = 0) ∧ ∀ t, lo64 c = t → Config.reference.hashWide c t = 0 := by
  have hwide (t : Word64) (hlo : lo64 c = t) : Config.reference.hashWide c t = 0 := by
    show fmix64 (hi64 c ^^^ fmix64 (lo64 c ^^^ t)) = 0
    simp [hhi, hlo]
  exact ⟨fun hlo => (reference_hashWide_zero c).symm.trans (hwide 0 hlo), hwide⟩

/-- Settles O52: with the folded bits 0 increment and hash are the narrow ones; a counter that cancels them is hashed to 0;
the increment lacks bit 127 of the selector, which the folded bits have. -/
theorem foldedSelectorBits : Obligations.FoldedSelectorBits := by
  refine ⟨fun s hv hw h => ⟨_, _, exec_draw_of_valid hv, exec_draw_of_valid hv, State.drawn_wide_eq_narrow hw h⟩,
    fun s hv hhi hlo => ?_, fun s t hinc hhi => ?_⟩
  · obtain ⟨hnarrow, hwide⟩ := reference_hash_eq_zero hhi
    have hzero : s.hash config s.counter = 0 := by
      rw [State.hash]
      cases hvar : s.variant with
      | narrow => rw [hvar] at hlo; exact hnarrow hlo
      | wide => rw [hvar] at hlo; exact hwide _ hlo
    rw [exec_mix_of_valid hv, State.mixed, hzero]
    rfl
  · have hnum := congrArg BitVec.toNat hinc
    have hquot : s.toNat / 2 ^ 64 = t.toNat / 2 ^ 64 := by
      rw [← hi64_toNat, ← hi64_toNat]
      exact congrArg BitVec.toNat hhi
    rw [reference_inc_wide_toNat, reference_inc_wide_toNat] at hnum
    refine BitVec.eq_of_toNat_eq ?_
    omega

end Sys2Proof.Machine
end

section
/-! PROOFS. The host's procedures: seeding (45_seeder.md R186), and LOAD, equals and clone (41_statemodel.md R101
to R103). -/

namespace Sys2Proof.Machine

/-! ### Seeding (R186) -/

theorem canonicalChunks_absorb {m : List Byte} : ∀ i ∈ canonicalChunks m, IsSeeding i ∧ ¬ Constructs i := by
  intro i hi
  obtain ⟨_, -, rfl⟩ := List.mem_map.mp hi
  exact ⟨rfl, Bool.false_ne_true⟩

/-- A list of SEED_INITs and SEED_ABSORBs writes the absorber alone, and the same values into states with the same
absorber. -/
theorem execAll_absorbs {is : List Instr} (his : ∀ i ∈ is, IsSeeding i ∧ ¬ Constructs i) {s u : State}
    (hu : u.sa = s.sa ∧ u.sb = s.sb ∧ u.sl = s.sl) : ∃ sa sb sl,
    execAll is s = .next (s.withAbsorber sa sb sl) ∧ execAll is u = .next (u.withAbsorber sa sb sl) := by
  induction is generalizing s u with
  | nil =>
    obtain ⟨ha, hb, hl⟩ := hu
    refine ⟨s.sa, s.sb, s.sl, rfl, ?_⟩
    rw [← ha, ← hb, ← hl]
    rfl
  | cons i is ih =>
    obtain ⟨⟨hi, hc⟩, his⟩ := List.forall_mem_cons.mp his
    obtain ⟨a, b, l, hs, hu⟩ := exec_absorbs hi hc hu
    obtain ⟨sa, sb, sl, hs', hu'⟩ := ih his (s := s.withAbsorber a b l) (u := u.withAbsorber a b l) ⟨rfl, rfl, rfl⟩
    exact ⟨sa, sb, sl, (execAll_cons hs is).trans hs', (execAll_cons hu is).trans hu'⟩

/-- From any two states the seeding sequence leaves one absorber before SEED_FINAL, so the same generator state after it. -/
theorem execAll_seedSequence (m : List Byte) (v : Variant) (sel : Option Word128) (s r : State) : ∃ sa sb sl,
    execAll (seedSequence m v sel) s = .next ((s.withAbsorber sa sb sl).seeded config v sel) ∧
    execAll (seedSequence m v sel) r = .next ((r.withAbsorber sa sb sl).seeded config v sel) := by
  obtain ⟨sa, sb, sl, hs, hr⟩ := execAll_absorbs (canonicalChunks_absorb (m := m)) (s := s.initAbsorber config)
    (u := r.initAbsorber config) ⟨rfl, rfl, rfl⟩
  refine ⟨sa, sb, sl, ?_, ?_⟩
  · rw [seedSequence, execAll_cons (exec_seedInit s), execAll_append hs, execAll_singleton]
    rfl
  · rw [seedSequence, execAll_cons (exec_seedInit r), execAll_append hr, execAll_singleton]
    rfl

/-- Settles O54: both runs by `execAll_seedSequence`, and what SEED_FINAL constructs depends on the absorber alone. -/
theorem seedFunctionTotal : Obligations.SeedFunctionTotal := by
  refine ⟨fun _ _ _ => rfl, fun m v sel s r => ?_, fun _ _ _ => rfl⟩
  obtain ⟨sa, sb, sl, hs, hr⟩ := execAll_seedSequence m v sel s r
  refine ⟨_, _, hs, hr, rfl, rfl, reference_incrementOdd _ _, rfl, rfl, rfl, rfl⟩

/-! ### LOAD (R103) -/

/-- Settles O59: the selector a LOAD writes is a function of the bits its variant reads. -/
theorem loadDeterministic : Obligations.LoadDeterministic := by
  intro v c b b' s r h
  refine ⟨_, _, exec_load v c b s, exec_load v c b' r, rfl, ?_, rfl, rfl⟩
  cases v with
  | narrow => exact congrArg zext128 h
  | wide => exact h

/-! ### equals (R102) -/

theorem State.sameGenerator_iff {a b : State} :
    a.sameGenerator b = true ↔ a.counter = b.counter ∧ a.selector = b.selector ∧ a.variant = b.variant := by
  simp [sameGenerator, and_assoc]

section
variable {s r : State} (h : s.sameGenerator r = true)
include h

theorem State.increment_congr (k : Config) : s.increment k = r.increment k := by
  obtain ⟨-, hsel, hvar⟩ := sameGenerator_iff.mp h
  rw [increment, hsel, hvar, increment]

theorem State.hash_congr (k : Config) : s.hash k = r.hash k := by
  obtain ⟨-, hsel, hvar⟩ := sameGenerator_iff.mp h
  funext c
  rw [hash, hsel, hvar, hash]

theorem State.drawWord_congr (k : Config) : s.drawWord k = r.drawWord k := by
  obtain ⟨hc, -, hvar⟩ := sameGenerator_iff.mp h
  have htap : s.tap k = r.tap k := by rw [tap, hvar, tap]
  rw [drawWord, htap, hash_congr h, increment_congr h, hc, drawWord]

/-- Equal generator states stay equal under STEP, DRAW, MIX and JUMP, and DRAW and MIX write equal words into them. -/
theorem exec_keeps_sameGenerator {i : Instr} (hi : ReadsGenerator i) (hs : s.stateValid = true)
    (hr : r.stateValid = true) : ∃ t u, exec i s = .next t ∧ exec i r = .next u ∧
      t.stateValid = true ∧ u.stateValid = true ∧ t.sameGenerator u = true ∧
      (s.out = r.out ∨ i = .draw ∨ i = .mix → t.out = u.out) := by
  obtain ⟨hc, hsel, hvar⟩ := State.sameGenerator_iff.mp h
  have hstep : stepCounter config (s.increment config) s.counter = stepCounter config (r.increment config) r.counter := by
    rw [State.increment_congr h, hc]
  cases i with
  | step =>
    exact ⟨_, _, exec_step_of_valid hs, exec_step_of_valid hr, hs, hr, State.sameGenerator_iff.mpr ⟨hstep, hsel, hvar⟩,
      by simp⟩
  | draw =>
    exact ⟨_, _, exec_draw_of_valid hs, exec_draw_of_valid hr, hs, hr, State.sameGenerator_iff.mpr ⟨hstep, hsel, hvar⟩,
      fun _ => State.drawWord_congr h config⟩
  | mix =>
    refine ⟨_, _, exec_mix_of_valid hs, exec_mix_of_valid hr, hs, hr, State.sameGenerator_iff.mpr ⟨hc, hsel, hvar⟩,
      fun _ => ?_⟩
    rw [State.mixed_out, State.mixed_out, State.hash_congr h, hc]
  | jump e =>
    refine ⟨_, _, exec_jump_of_valid hs e, exec_jump_of_valid hr e, hs, hr,
      State.sameGenerator_iff.mpr ⟨?_, hsel, hvar⟩, by simp⟩
    rw [State.jumped_counter, State.jumped_counter, State.increment_congr h, hc]
  | nop | load | seedInit | seedAbsorb | seedFinal | clrst => nomatch hi

end

theorem execAll_keeps_sameGenerator {is : List Instr} (his : ∀ i ∈ is, ReadsGenerator i) {s r : State}
    (hs : s.stateValid = true) (hr : r.stateValid = true) (h : s.sameGenerator r = true) : ∃ t u,
    execAll is s = .next t ∧ execAll is r = .next u ∧ t.sameGenerator u = true ∧
      (s.out = r.out ∨ .draw ∈ is ∨ .mix ∈ is → t.out = u.out) := by
  induction is generalizing s r with
  | nil => exact ⟨s, r, rfl, rfl, h, by simp⟩
  | cons i is ih =>
    obtain ⟨hi, his⟩ := List.forall_mem_cons.mp his
    obtain ⟨s', r', hs', hr', hsv, hrv, hsame, hout⟩ := exec_keeps_sameGenerator h hi hs hr
    obtain ⟨t, u, ht, hu, hsame', hout'⟩ := ih his hsv hrv hsame
    refine ⟨t, u, (execAll_cons hs' is).trans ht, (execAll_cons hr' is).trans hu, hsame', ?_⟩
    simp only [List.mem_cons]
    rintro (ho | (rfl | hd) | (rfl | hm))
    · exact hout' (.inl (hout (.inl ho)))
    · exact hout' (.inl (hout (.inr (.inl rfl))))
    · exact hout' (.inr (.inl hd))
    · exact hout' (.inl (hout (.inr (.inr rfl))))
    · exact hout' (.inr (.inr hm))

/-- Settles O58: induction on the list, and equal generator states have one VARIANT. -/
theorem equalStatesStayEqual : Obligations.EqualStatesStayEqual := by
  refine ⟨fun is s r his hs hr h => execAll_keeps_sameGenerator his hs hr h, fun s r hne => ?_⟩
  refine Bool.eq_false_iff.mpr fun h => ?_
  obtain ⟨-, -, hvar⟩ := State.sameGenerator_iff.mp h
  exact hne hvar

/-! ### clone (R101) -/

/-- What the variant reads of a selector that meets R23 is all of it. -/
theorem selectorOperand_of_narrow_hi64_eq_zero {v : Variant} {sel : Word128} (h : v = .narrow → hi64 sel = 0) :
    selectorOperand v sel = sel := by
  cases v with
  | narrow => exact zext128_lo64_of_hi64_eq_zero (h rfl)
  | wide => rfl

/-- The clone is the LOAD of the three registers. -/
theorem State.cloneCommand_of_valid {s : State} (hv : s.stateValid = true) :
    s.cloneCommand = some (encode (.load s.variant s.counter s.selector)) := by
  have hport : s.ports.stateValidO = 1#1 := by rw [ports, hv]; rfl
  have hvar : (s.ports.variantO == 1#1) = s.variant.bit := by rw [ports]; cases s.variant <;> rfl
  rw [cloneCommand, if_pos hport, hvar]
  rfl

/-- Settles O57: the clone command decodes to that LOAD, which reads the whole selector. -/
theorem cloneCopiesState : Obligations.CloneCopiesState := by
  refine ⟨fun s r hv hs => ?_, fun s hv => ?_⟩
  · have hperform : perform (encode (.load s.variant s.counter s.selector)) r =
        .next (r.construct s.variant s.counter s.selector) := by
      rw [perform_of_ok (decodeOfEncode _ rfl), exec_load, selectorOperand_of_narrow_hi64_eq_zero hs]
    exact ⟨_, _, State.cloneCommand_of_valid hv, hperform, State.sameGenerator_iff.mpr ⟨rfl, rfl, rfl⟩, rfl, rfl⟩
  · rw [State.cloneCommand, State.ports, hv]
    rfl

end Sys2Proof.Machine
end

section
/-! PROOFS. The raw-state layout and its import (20_memory.md R54, R63). -/

namespace Sys2Proof.Machine

/-! ### Bytes of a word, and back -/

@[simp] theorem length_bytesLE (n : Nat) (x : Word128) : (bytesLE n x).length = n := by simp [bytesLE]

theorem getElem?_bytesLE {n k : Nat} (hk : k < n) (x : Word128) : (bytesLE n x)[k]? = some (x.extractLsb' (8 * k) 8) := by
  simp [bytesLE, hk]

theorem bytesLE_succ (n : Nat) (x : Word128) : bytesLE (n + 1) x = x.extractLsb' 0 8 :: bytesLE n (x >>> 8) := by
  have hbyte (k : Nat) : (x >>> 8).extractLsb' (8 * k) 8 = x.extractLsb' (8 * (k + 1)) 8 := by
    refine BitVec.eq_of_toNat_eq ?_
    rw [BitVec.extractLsb'_toNat, BitVec.extractLsb'_toNat, BitVec.toNat_ushiftRight, ← Nat.shiftRight_add, Nat.mul_succ,
      Nat.add_comm]
  simp [bytesLE, List.range_succ_eq_map, hbyte]

/-- The number of the n low bytes of a word is its value mod 256^n. -/
theorem natOfBytesLE_bytesLE (n : Nat) (x : Word128) : natOfBytesLE (bytesLE n x) = x.toNat % 256 ^ n := by
  induction n generalizing x with
  | zero => rw [pow_zero, Nat.mod_one]; rfl
  | succ n ih =>
    have h256 : 2 ^ 8 = 256 := rfl
    rw [bytesLE_succ, natOfBytesLE, ih, BitVec.extractLsb'_toNat, BitVec.toNat_ushiftRight, Nat.shiftRight_zero,
      Nat.shiftRight_eq_div_pow, h256, pow_succ' 256 n, Nat.mod_mul]

theorem natOfBytesLE_lt (bs : List Byte) : natOfBytesLE bs < 256 ^ bs.length := by
  induction bs with
  | nil => decide
  | cons b bs ih =>
    have hb := b.isLt
    rw [natOfBytesLE, List.length_cons, pow_succ']
    omega

/-- The bus that carries the number of a list of bytes (R63). -/
def wordOfBytes (bs : List Byte) : Word128 := BitVec.ofNat 128 (natOfBytesLE bs)

theorem wordOfBytes_bytesLE {n : Nat} {x : Word128} (h : x.toNat < 256 ^ n) : wordOfBytes (bytesLE n x) = x := by
  rw [wordOfBytes, natOfBytesLE_bytesLE, Nat.mod_eq_of_lt h, BitVec.ofNat_toNat, BitVec.setWidth_eq]

/-- The bytes of the number of at most 16 bytes are those bytes. -/
theorem bytesLE_wordOfBytes {bs : List Byte} {n : Nat} (hn : bs.length = n) (h16 : n ≤ 16) :
    bytesLE n (wordOfBytes bs) = bs := by
  subst hn
  refine List.ext_getElem (length_bytesLE _ _) fun k hk hk' => ?_
  have hbyte := getElem?_bytesLE hk' (wordOfBytes bs)
  rw [List.getElem?_eq_getElem hk, Option.some_inj] at hbyte
  rw [hbyte, wordOfBytes, ofNat_natOfBytesLE_byte hk' (by omega)]

/-! ### The layout (R54) -/

/-- The bytes of the selector in the raw state: 8 in the narrow variant, 16 in the wide one. -/
def selectorBytes : Variant → Nat
  | .narrow => 8
  | .wide => 16

theorem rawLength_eq (v : Variant) : rawLength v = 16 + selectorBytes v := by cases v <;> rfl

theorem State.exportRaw_eq (s : State) :
    s.exportRaw = bytesLE 16 s.counter ++ bytesLE (selectorBytes s.variant) s.selector := by
  rw [exportRaw]
  cases s.variant <;> rfl

theorem State.length_exportRaw (s : State) : s.exportRaw.length = rawLength s.variant := by
  rw [exportRaw_eq, List.length_append, length_bytesLE, length_bytesLE, rawLength_eq]

theorem State.exportRaw_counter (s : State) {k : Nat} (hk : k < 16) :
    s.exportRaw[k]? = some (s.counter.extractLsb' (8 * k) 8) := by
  rw [exportRaw_eq, List.getElem?_append_left (by simpa using hk), getElem?_bytesLE hk]

theorem State.exportRaw_selector (s : State) {k : Nat} (hk : k < selectorBytes s.variant) :
    s.exportRaw[16 + k]? = some (s.selector.extractLsb' (8 * k) 8) := by
  rw [exportRaw_eq, List.getElem?_append_right (by simp), length_bytesLE, Nat.add_sub_cancel_left, getElem?_bytesLE hk]

/-- Settles O55: the length and the bytes in both variants. -/
theorem rawStateLayout : Obligations.RawStateLayout := by
  refine ⟨fun s hv => ⟨?_, fun k hk => s.exportRaw_counter hk, fun k hk => s.exportRaw_selector (hv ▸ hk)⟩,
    fun s hv => ⟨?_, fun k hk => s.exportRaw_counter hk, fun k hk => s.exportRaw_selector (hv ▸ hk)⟩⟩
  all_goals rw [State.length_exportRaw, hv, rawLength]

/-! ### Import (R63) -/

theorem importRaw_of_length_ne {v : Variant} {bytes : List Byte} (h : bytes.length ≠ rawLength v) :
    importRaw v bytes = none := if_neg h

section
variable {v : Variant} {bytes : List Byte} (h : bytes.length = rawLength v)
include h

theorem importRaw_of_length_eq :
    importRaw v bytes = some (.load v (wordOfBytes (bytes.take 16)) (wordOfBytes (bytes.drop 16))) := if_pos h

theorem length_take_raw : (bytes.take 16).length = 16 := by
  rw [List.length_take, h, rawLength_eq]
  omega

theorem length_drop_raw : (bytes.drop 16).length = selectorBytes v := by
  rw [List.length_drop, h, rawLength_eq, Nat.add_sub_cancel_left]

/-- The 8 selector bytes of the narrow layout are zero-extended. -/
theorem hi64_wordOfBytes_drop (hv : v = .narrow) : hi64 (wordOfBytes (bytes.drop 16)) = 0 := by
  have hlt := natOfBytesLE_lt (bytes.drop 16)
  rw [length_drop_raw h, hv, selectorBytes] at hlt
  have h128 : natOfBytesLE (bytes.drop 16) < 2 ^ 128 := by omega
  refine BitVec.eq_of_toNat_eq ?_
  rw [hi64_toNat, wordOfBytes, BitVec.toNat_ofNat, Nat.mod_eq_of_lt h128]
  exact Nat.div_eq_of_lt hlt

/-- Exporting what an import loaded yields the bytes imported. -/
theorem exportRaw_of_imported (s : State) :
    (s.construct v (wordOfBytes (bytes.take 16)) (wordOfBytes (bytes.drop 16))).exportRaw = bytes := by
  have hsel : selectorBytes v ≤ 16 := by cases v <;> decide
  rw [State.exportRaw_eq, State.construct_counter, State.construct_variant, State.construct_selector,
    bytesLE_wordOfBytes (length_take_raw h) le_rfl, bytesLE_wordOfBytes (length_drop_raw h) hsel, List.take_append_drop]

end

/-- Importing what a state exports is the LOAD of its registers. -/
theorem State.importRaw_exportRaw {s : State} (hs : NarrowSelectorZero s) :
    importRaw s.variant s.exportRaw = some (.load s.variant s.counter s.selector) := by
  have hfits : s.selector.toNat < 256 ^ selectorBytes s.variant := by
    cases hv : s.variant with
    | narrow =>
      have hhi := congrArg BitVec.toNat (hs hv)
      rw [hi64_toNat] at hhi
      exact Nat.lt_of_div_eq_zero (by decide) hhi
    | wide => exact s.selector.isLt
  rw [importRaw_of_length_eq s.length_exportRaw, exportRaw_eq, List.take_left' (length_bytesLE _ _),
    List.drop_left' (length_bytesLE _ _), wordOfBytes_bytesLE s.counter.isLt, wordOfBytes_bytesLE hfits]

/-- Settles O56: a wrong length is no LOAD; the LOAD's operands have the bytes imported; and the exported bytes are those of
the registers. -/
theorem rawStateRoundTrip : Obligations.RawStateRoundTrip := by
  refine ⟨fun v bytes h => ?_, fun v bytes s h => ?_, fun s r hs => ?_⟩
  · have hnone : importRaw v bytes = none := importRaw_of_length_ne (by cases v <;> exact h)
    exact ⟨hnone, by rw [Pseudo.expand, hnone]; rfl⟩
  · have hlen : bytes.length = rawLength v := by cases v <;> exact h
    have hload := importRaw_of_length_eq hlen
    have hexp := exportRaw_of_imported hlen s
    refine ⟨_, _, _, hload, by rw [Pseudo.expand, hload]; rfl, fun k hk => ?_, fun k hk => ?_,
      hi64_wordOfBytes_drop hlen, exec_load _ _ _ s, rfl, rfl, ?_⟩
    · exact (congrArg (·[k]?) hexp).symm.trans (State.exportRaw_counter _ hk)
    · have hsel : k < selectorBytes v := by rw [hlen, rawLength_eq] at hk; omega
      exact (congrArg (·[16 + k]?) hexp).symm.trans (State.exportRaw_selector _ hsel)
    · rw [selectorOperand_of_narrow_hi64_eq_zero (hi64_wordOfBytes_drop hlen), hexp]
  · refine ⟨_, _, s.importRaw_exportRaw hs, exec_load _ _ _ r, State.sameGenerator_iff.mpr ⟨rfl, ?_, rfl⟩⟩
    exact selectorOperand_of_narrow_hi64_eq_zero hs

end Sys2Proof.Machine
end

section
/-! PROOFS. The worked examples of the command rules, evaluated under the reference configuration (00_scope.md R10). -/

namespace Sys2Proof.Machine

/-- Settles O60: each example is a closed evaluation; the jump by 1 is evaluated as a STEP. -/
theorem workedExamples : Obligations.WorkedExamples := by
  refine ⟨⟨_, exec_load .., ?_⟩, ⟨_, execAll_pair (exec_load ..) _ |>.trans (exec_step_of_valid rfl), ?_⟩,
    ⟨_, execAll_pair (exec_load ..) _ |>.trans (exec_draw_of_valid rfl), ?_⟩,
    ⟨_, execAll_pair (exec_load ..) _ |>.trans (exec_mix_of_valid rfl), ?_⟩,
    ⟨_, execAll_pair (exec_load ..) _ |>.trans (exec_jump_eq_iterate_stepped rfl 1), ?_⟩,
    ⟨_, exec_seedAbsorb .., ?_⟩, ⟨_, execAll_pair (exec_seedFinal ..) _ |>.trans (exec_draw_of_valid rfl), ?_⟩⟩
  all_goals decide

end Sys2Proof.Machine
end
